-- ==== Sys2Proof/Word.lean ====
section
/-! DEFINITION. The 32-bit word of the host bus and of the counters, and the two reductions of `00_scope.md` rule R8. -/

namespace Sys2Proof

/-- A 32-bit register or counter (`10_state.md` rules R24 to R28, `20_memory.md` rule R80). -/
abbrev Word := BitVec 32

/-- `wrap32` of rule R8: a natural number reduced modulo `2^32`. -/
def wrap32 (n : Nat) : Word := BitVec.ofNat 32 n

/-- `sat32` of rule R8: a natural number limited to `2^32 - 1`. -/
def sat32 (n : Nat) : Nat := min n (2 ^ 32 - 1)

end Sys2Proof
end

