-- ==== Sys2Proof/Syntax.lean ====
section
/-! DEFINITION. The instructions of the block, one constructor per row of `spec/opcode_table.json`, and the raw port
activity (`Item`) that they are read from.

The block is no processor (`00_scope.md` rule R1): its "instructions" are its input events, the host writes that refine
`BUS_WRITE`, the Commands it emits and the tag replies it receives. -/

namespace Sys2Proof

/-- The instructions: one constructor per row of the opcode table, in the table's order. -/
inductive Instr where
  /-- `RESET` (rule R360). -/
  | reset
  /-- `BUS_WRITE(addr, data)` (rule R290). -/
  | busWrite (addr : BitVec 12) (data : BitVec 32)
  /-- `BUS_READ(addr) -> rdata` (rule R291). -/
  | busRead (addr : BitVec 12)
  /-- A cycle with both bus strobes (rule R113). -/
  | busWriteRead (addr : BitVec 12) (data : BitVec 32)
  /-- `TX_DONE` (rule R253). -/
  | txDone
  /-- `SAMPLE(idx, I, Q)` (rule R170). -/
  | sample (idx : BitVec 32) (i q : BitVec 16)
  /-- A write of `CTRL` with `START = 1`, `STOP = 0`; `rsv` is `data[31:2]`, ignored (rule R293). -/
  | ctrlStart (rsv : BitVec 30)
  /-- A write of `CTRL` with `START = 0`, `STOP = 1` (rule R296). -/
  | ctrlStop (rsv : BitVec 30)
  /-- A write of `CTRL` with `START = 1`, `STOP = 1` (rule R297). -/
  | ctrlStartStop (rsv : BitVec 30)
  /-- A write of `CTRL` with neither bit set (rule R42). -/
  | ctrlNop (rsv : BitVec 30)
  /-- A write of `IRQ_PEND`: write-one-to-clear (rule R292). -/
  | irqPendW1C (data : BitVec 32)
  /-- A write of `IRQ_EN` (rule R54). -/
  | irqEnWrite (data : BitVec 32)
  /-- A write at `0x020 + off`: offsets 0x020 to 0x03F (rule R44). -/
  | configWriteLo (off : BitVec 5) (data : BitVec 32)
  /-- A write at `0x040 + off`: offsets 0x040 to 0x07F (rule R44). -/
  | configWriteHi (off : BitVec 6) (data : BitVec 32)
  /-- `QUERY`: the pattern `1000 d 00 0 ss nn t qqqq ccccc` (rule R134). -/
  | query (dr : BitVec 1) (sel session : BitVec 2) (target : BitVec 1) (q : BitVec 4) (crc : BitVec 5)
  /-- `QUERYREP`: the pattern `00 nn` (rule R135). -/
  | queryRep (session : BitVec 2)
  /-- `QUERYADJUST`: the pattern `1001 nn uuu` (rule R136). -/
  | queryAdjust (session : BitVec 2) (upDn : BitVec 3)
  /-- `ACK`: the pattern `01 r…r` (rule R137). -/
  | ack (rn : BitVec 16)
  /-- `SELECT`: `1010 ggg aaa bb 0ppppppp llllllll m…m k c…c` (rule R138). -/
  | select (target action : BitVec 3) (memBank : BitVec 2) (pointer : BitVec 7) (length : BitVec 6)
      (mask : BitVec 32) (trunc : BitVec 1) (crc : BitVec 16)
  /-- `REPLY_RN16`: 16 data bits (rule R152), received with the `I` amplitudes `hi` and `lo` (rule R166). -/
  | replyRn16 (rn : BitVec 16) (hi lo : BitVec 16)
  /-- `REPLY_ID`: PC, EPC and CRC-16 (rule R153), received with the `I` amplitudes `hi` and `lo` (rule R166). -/
  | replyId (pc : BitVec 16) (epc : BitVec 96) (crc : BitVec 16) (hi lo : BitVec 16)
deriving DecidableEq, Repr

/-- The input pins of the block in one clock cycle (`30_encoding.md` rules R111 to R115).
`ctl` is the control vector as the opcode table numbers it:
bit 4 `rst`, bit 3 `bus_wr`, bit 2 `bus_rd`, bit 1 `tx_done`, bit 0 `s_valid`. -/
structure Cycle where
  ctl   : BitVec 5
  addr  : BitVec 12
  wdata : BitVec 32
  sIdx  : BitVec 32
  sI    : BitVec 16
  sQ    : BitVec 16
deriving DecidableEq, Repr

/-- One piece of pending port activity, the raw form an instruction is decoded from.
Only a `cycle` carries events of the block (rule R110). A `command` is a Command as its bits, first transmitted first: no
port takes it, and at a step boundary it changes nothing (log entry 6). A `reply` is a tag reply as its data bits, first
received first, with the two `I` amplitudes of rule R166: it stands for the samples it is received as (log entry 8). -/
inductive Item where
  | cycle (c : Cycle)
  | command (bits : List Bool)
  | reply (bits : List Bool) (hi lo : BitVec 16)
deriving DecidableEq, Repr

/-- Why a piece of port activity holds no instruction. -/
inductive DecodeError where
  /-- No strobe of the cycle is set: no event (rule R110). -/
  | idleCycle
  /-- The Command's first bits or its length match no Command of rules R134 to R138 (rules R139, R161). -/
  | commandPattern
  /-- A `QUERY` whose `M` or `TRext` bits are not the hardwired zeros (rule R134). -/
  | queryHardwiredBits
  /-- A `SELECT` whose EBV extension bit or upper Length bits are not 0, or whose Length exceeds 32 (rule R138). -/
  | selectFixedBits
  /-- A reply that has neither 16 nor 128 data bits (rules R152, R153). -/
  | replyLength
deriving DecidableEq, Repr

end Sys2Proof
end

