-- ==== Sys2Proof/WellFormed.lean ====
section
/-! DEFINITION. Which instructions are canonical: each word of port activity has one reading.
`BUS_WRITE` is well formed only where no host-write row of the table takes its address, and a `SELECT` carries at most
32 mask bits and none above its Length field. -/

namespace Sys2Proof

/-- The offsets that a host-write row of the opcode table takes: `CTRL`, `IRQ_PEND`, `IRQ_EN` and 0x020 to 0x07F. -/
def hostWriteRow (addr : BitVec 12) : Bool :=
  addr == 0x008 || addr == 0x010 || addr == 0x014 || (0x020 ≤ addr.toNat && addr.toNat ≤ 0x07F)

/-- Well-formedness of an instruction. -/
def Instr.wellFormed : Instr → Bool
  | .busWrite addr _ => !hostWriteRow addr
  | .select _ _ _ _ length mask _ _ => length.toNat ≤ 32 && mask.toNat < 2 ^ length.toNat
  | .reset => true
  | .busRead _ => true
  | .busWriteRead _ _ => true
  | .txDone => true
  | .sample _ _ _ => true
  | .ctrlStart _ => true
  | .ctrlStop _ => true
  | .ctrlStartStop _ => true
  | .ctrlNop _ => true
  | .irqPendW1C _ => true
  | .irqEnWrite _ => true
  | .configWriteLo _ _ => true
  | .configWriteHi _ _ => true
  | .query _ _ _ _ _ _ => true
  | .queryRep _ => true
  | .queryAdjust _ _ => true
  | .ack _ => true
  | .replyRn16 _ _ _ => true
  | .replyId _ _ _ _ _ => true

end Sys2Proof
end

