-- ==== Sys2Proof/Decode.lean ====
section
/-! DEFINITION. The decoder from port activity to instructions, total on any item and rejecting by name, and after it the
encoder, written from the same patterns of `30_encoding.md`. Also the table's own numbering of an instruction's word
(`decodeTableWord`). -/

namespace Sys2Proof

/-! ### Bit sequences in air order (`00_scope.md` rule R7) -/

/-- The `n`-bit sequence of `v`, most significant bit first (`bits(v, n)` of `95_test_vectors.md`). -/
def bitsOf : Nat → Nat → List Bool
  | 0, _ => []
  | n + 1, v => v.testBit n :: bitsOf n v

/-- `msb_first` of rule R7: the first bit is the most significant. -/
def msbFirst (bits : List Bool) : Nat := bits.foldl (fun acc b => 2 * acc + b.toNat) 0

/-- The value of the `n` bits that start at position `start` of a bit sequence. -/
def fieldAt (bits : List Bool) (start n : Nat) : Nat := msbFirst ((bits.drop start).take n)

/-! ### Decoding -/

/-- A host write (rule R290), read as the host-write row of the opcode table that takes it, or as a plain `BUS_WRITE`
where no row does. The address is compared whole, so a misaligned `CTRL` address is a plain `BUS_WRITE`. -/
def decodeHostWrite (addr : BitVec 12) (data : BitVec 32) : Instr :=
  if addr = 0x008 then
    match data.getLsbD 1, data.getLsbD 0 with
    | false, false => .ctrlNop (data.extractLsb' 2 30)
    | false, true => .ctrlStart (data.extractLsb' 2 30)
    | true, false => .ctrlStop (data.extractLsb' 2 30)
    | true, true => .ctrlStartStop (data.extractLsb' 2 30)
  else if addr = 0x010 then .irqPendW1C data
  else if addr = 0x014 then .irqEnWrite data
  else if addr.extractLsb' 5 7 = 1 then .configWriteLo (addr.extractLsb' 0 5) data
  else if addr.extractLsb' 6 6 = 1 then .configWriteHi (addr.extractLsb' 0 6) data
  else .busWrite addr data

/-- What is left of a cycle after some of its strobes have been taken (rule R115): the cycle with those strobes
cleared, or nothing when no strobe remains. -/
def Cycle.without (c : Cycle) (taken : BitVec 5) : Option Item :=
  if c.ctl &&& ~~~taken = 0 then none else some (.cycle { c with ctl := c.ctl &&& ~~~taken })

/-- The first event of a clock cycle and what is left of the cycle. `rst` cancels every other event (rule R114);
otherwise the order is bus access, `TX_DONE`, `SAMPLE` (rule R115); both bus strobes are one access (rule R113). -/
def decodeCycle (c : Cycle) : Except DecodeError (Instr × Option Item) :=
  if c.ctl.getLsbD 4 then .ok (.reset, none)
  else if c.ctl.getLsbD 3 && c.ctl.getLsbD 2 then .ok (.busWriteRead c.addr c.wdata, c.without 0b01100)
  else if c.ctl.getLsbD 3 then .ok (decodeHostWrite c.addr c.wdata, c.without 0b01000)
  else if c.ctl.getLsbD 2 then .ok (.busRead c.addr, c.without 0b00100)
  else if c.ctl.getLsbD 1 then .ok (.txDone, c.without 0b00010)
  else if c.ctl.getLsbD 0 then .ok (.sample c.sIdx c.sI c.sQ, c.without 0b00001)
  else .error .idleCycle

/-- `QUERY` after its first four bits: `d 00 0 ss nn t qqqq ccccc` (rule R134). -/
def decodeQuery (r : List Bool) : Except DecodeError Instr :=
  if r.length ≠ 18 then .error .commandPattern
  else if fieldAt r 1 3 ≠ 0 then .error .queryHardwiredBits
  else .ok (.query (BitVec.ofNat 1 (fieldAt r 0 1)) (BitVec.ofNat 2 (fieldAt r 4 2)) (BitVec.ofNat 2 (fieldAt r 6 2))
    (BitVec.ofNat 1 (fieldAt r 8 1)) (BitVec.ofNat 4 (fieldAt r 9 4)) (BitVec.ofNat 5 (fieldAt r 13 5)))

/-- `SELECT` after its first four bits: `ggg aaa bb 0ppppppp llllllll m…m k c…c` (rule R138); the Length field gives
the number of mask bits (rule R162). -/
def decodeSelect (r : List Bool) : Except DecodeError Instr :=
  let len := fieldAt r 16 8
  if r.length < 41 then .error .commandPattern
  else if fieldAt r 8 1 ≠ 0 ∨ 32 < len then .error .selectFixedBits
  else if r.length ≠ 41 + len then .error .commandPattern
  else .ok (.select (BitVec.ofNat 3 (fieldAt r 0 3)) (BitVec.ofNat 3 (fieldAt r 3 3)) (BitVec.ofNat 2 (fieldAt r 6 2))
    (BitVec.ofNat 7 (fieldAt r 9 7)) (BitVec.ofNat 6 len) (BitVec.ofNat 32 (fieldAt r 24 len))
    (BitVec.ofNat 1 (fieldAt r (24 + len) 1)) (BitVec.ofNat 16 (fieldAt r (25 + len) 16)))

/-- A Command from its bits in transmission order; the first bits decide which it is (rule R162). -/
def decodeCommand : List Bool → Except DecodeError Instr
  | false :: false :: r =>
    if r.length = 2 then .ok (.queryRep (BitVec.ofNat 2 (fieldAt r 0 2))) else .error .commandPattern
  | false :: true :: r =>
    if r.length = 16 then .ok (.ack (BitVec.ofNat 16 (fieldAt r 0 16))) else .error .commandPattern
  | true :: false :: false :: false :: r => decodeQuery r
  | true :: false :: false :: true :: r =>
    if r.length = 5 then .ok (.queryAdjust (BitVec.ofNat 2 (fieldAt r 0 2)) (BitVec.ofNat 3 (fieldAt r 2 3)))
    else .error .commandPattern
  | true :: false :: true :: false :: r => decodeSelect r
  | _ => .error .commandPattern

/-- A tag reply from its data bits in reception order (rules R152, R153). -/
def decodeReply (bits : List Bool) (hi lo : BitVec 16) : Except DecodeError Instr :=
  if bits.length = 16 then .ok (.replyRn16 (BitVec.ofNat 16 (msbFirst bits)) hi lo)
  else if bits.length = 128 then
    .ok (.replyId (BitVec.ofNat 16 (fieldAt bits 0 16)) (BitVec.ofNat 96 (fieldAt bits 16 96))
      (BitVec.ofNat 16 (fieldAt bits 112 16)) hi lo)
  else .error .replyLength

/-- The decoder: the first instruction of a piece of port activity and what is left of it. -/
def decodeItem : Item → Except DecodeError (Instr × Option Item)
  | .cycle c => decodeCycle c
  | .command bits => (decodeCommand bits).map fun i => (i, none)
  | .reply bits hi lo => (decodeReply bits hi lo).map fun i => (i, none)

/-! ### Encoding -/

/-- The bits of a `QUERY` in transmission order (rule R134). -/
def queryBits (dr : BitVec 1) (sel session : BitVec 2) (target : BitVec 1) (q : BitVec 4) (crc : BitVec 5) :
    List Bool :=
  [true, false, false, false] ++ bitsOf 1 dr.toNat ++ [false, false, false] ++ bitsOf 2 sel.toNat ++
    bitsOf 2 session.toNat ++ bitsOf 1 target.toNat ++ bitsOf 4 q.toNat ++ bitsOf 5 crc.toNat

/-- The bits of a `QUERYREP` in transmission order (rule R135). -/
def queryRepBits (session : BitVec 2) : List Bool := [false, false] ++ bitsOf 2 session.toNat

/-- The bits of a `QUERYADJUST` in transmission order (rule R136). -/
def queryAdjustBits (session : BitVec 2) (upDn : BitVec 3) : List Bool :=
  [true, false, false, true] ++ bitsOf 2 session.toNat ++ bitsOf 3 upDn.toNat

/-- The bits of an `ACK` in transmission order (rule R137). -/
def ackBits (rn : BitVec 16) : List Bool := [false, true] ++ bitsOf 16 rn.toNat

/-- The bits of a `SELECT` before its CRC, in transmission order: `29 + L` of them (rule R138). -/
def selectBody (target action : BitVec 3) (memBank : BitVec 2) (pointer : BitVec 7) (length : BitVec 6)
    (mask : BitVec 32) (trunc : BitVec 1) : List Bool :=
  [true, false, true, false] ++ bitsOf 3 target.toNat ++ bitsOf 3 action.toNat ++ bitsOf 2 memBank.toNat ++
    bitsOf 8 pointer.toNat ++ bitsOf 8 length.toNat ++ bitsOf length.toNat mask.toNat ++ bitsOf 1 trunc.toNat

/-- The bits of a `SELECT` in transmission order (rule R138). -/
def selectBits (target action : BitVec 3) (memBank : BitVec 2) (pointer : BitVec 7) (length : BitVec 6)
    (mask : BitVec 32) (trunc : BitVec 1) (crc : BitVec 16) : List Bool :=
  selectBody target action memBank pointer length mask trunc ++ bitsOf 16 crc.toNat

/-- The data bits of an identifier reply in reception order (rule R153). -/
def replyIdBits (pc : BitVec 16) (epc : BitVec 96) (crc : BitVec 16) : List Bool :=
  bitsOf 16 pc.toNat ++ bitsOf 96 epc.toNat ++ bitsOf 16 crc.toNat

/-- A cycle with the given control vector and every other pin 0. -/
def cycleOf (ctl : BitVec 5) : Cycle := { ctl, addr := 0, wdata := 0, sIdx := 0, sI := 0, sQ := 0 }

/-- A cycle that writes `data` at `addr` (rule R113). -/
def writeCycle (addr : BitVec 12) (data : BitVec 32) : Item := .cycle { cycleOf 0b01000 with addr, wdata := data }

/-- The encoder: the port activity that stands for an instruction. -/
def encode : Instr → Item
  | .reset => .cycle (cycleOf 0b10000)
  | .busWrite addr data => writeCycle addr data
  | .busRead addr => .cycle { cycleOf 0b00100 with addr }
  | .busWriteRead addr data => .cycle { cycleOf 0b01100 with addr, wdata := data }
  | .txDone => .cycle (cycleOf 0b00010)
  | .sample idx i q => .cycle { cycleOf 0b00001 with sIdx := idx, sI := i, sQ := q }
  | .ctrlStart rsv => writeCycle 0x008 (rsv ++ 0b01#2)
  | .ctrlStop rsv => writeCycle 0x008 (rsv ++ 0b10#2)
  | .ctrlStartStop rsv => writeCycle 0x008 (rsv ++ 0b11#2)
  | .ctrlNop rsv => writeCycle 0x008 (rsv ++ 0b00#2)
  | .irqPendW1C data => writeCycle 0x010 data
  | .irqEnWrite data => writeCycle 0x014 data
  | .configWriteLo off data => writeCycle (0b0000001#7 ++ off) data
  | .configWriteHi off data => writeCycle (0b000001#6 ++ off) data
  | .query dr sel session target q crc => .command (queryBits dr sel session target q crc)
  | .queryRep session => .command (queryRepBits session)
  | .queryAdjust session upDn => .command (queryAdjustBits session upDn)
  | .ack rn => .command (ackBits rn)
  | .select target action memBank pointer length mask trunc crc =>
    .command (selectBits target action memBank pointer length mask trunc crc)
  | .replyRn16 rn hi lo => .reply (bitsOf 16 rn.toNat) hi lo
  | .replyId pc epc crc hi lo => .reply (replyIdBits pc epc crc) hi lo

/-! ### The opcode table's numbering -/

/-- The port activity that a word of the opcode table stands for: `nbits` bits (whole bytes), bit 0 the least
significant. An event word is the control vector with the other pins 0; a host write is `{addr[11:0], data[31:0]}`;
a Command is `cmd_word`, right-aligned; a reply is its data bits, the first received the most significant, with both
amplitudes 0. The table's formats overlap and carry no tag, so the number of bits and the value choose the format
(log entry 5): 128 bits are an identifier reply; 16 bits are a random-number reply unless they are a `QUERYADJUST`;
1 to 31 in a short word is a control vector, and 0 a `QUERYREP`. A word that fits no format is an empty Command, which
the decoder rejects. -/
def tableItem (nbits w : Nat) : Item :=
  if nbits = 128 then .reply (bitsOf 128 w) 0 0
  else if nbits = 16 ∧ w / 32 ≠ 9 then .reply (bitsOf 16 w) 0 0
  else if nbits ≤ 32 then
    if w = 0 then .command (bitsOf 4 0)
    else if w < 32 then .cycle (cycleOf (BitVec.ofNat 5 w))
    else if w / 32 = 9 then .command (bitsOf 9 w)
    else if w < 2 ^ 18 then .command (bitsOf 18 w)
    else if w < 2 ^ 22 then .command (bitsOf 22 w)
    else .command []
  else if w < 2 ^ 44 then writeCycle (BitVec.ofNat 12 (w / 2 ^ 32)) (BitVec.ofNat 32 w)
  else .command (bitsOf (Nat.log2 w + 1) w)

/-- The instruction the decoder reads from a word of the opcode table. -/
def decodeTableWord (nbits w : Nat) : Option Instr :=
  match decodeItem (tableItem nbits w) with
  | .ok (i, _) => some i
  | .error _ => none

end Sys2Proof
end

