-- ==== Sys2Proof/Config.lean ====
section
/-! DEFINITION. The fixed sizes of `00_scope.md` rule R6, and this hardware's values of the synthesis parameters, which the
machine itself takes as arguments (`Machine.Params`; log entry 20). -/

namespace Sys2Proof.Config

/-- This hardware's `FB_DEPTH`, the frame-buffer capacity in samples (rule R6). -/
def fbDepth : Nat := 8192

/-- This hardware's `ID_CAP`, the identifier-store entries (rule R6). -/
def idCap : Nat := 64

/-- `RN_BITS`: payload bits of a random-number reply (rule R6). -/
def rnBits : Nat := 16

/-- `ID_BITS` = 16 + `EPC_BITS` + 16: payload bits of an identifier reply (rule R6). -/
def idBits : Nat := 128

/-- `PRE_HALVES`: preamble length in half-symbols (rule R6). -/
def preHalves : Nat := 12

end Sys2Proof.Config
end

