-- ==== Sys2Proof/Machine/State.lean ====
section
/-! DEFINITION. The state of the block as plain data, its reasons to stop, and the state after reset
(`10_state.md`, `20_memory.md`, `70_reset_and_hazards.md` rule R360). -/

namespace Sys2Proof.Machine

/-- `RSTATE` (rule R22). The reserved code 7 is never held (log entry 23). -/
inductive RState where
  | done | roundStart | awaitSlotReply | slotEmpty | slotSuccess | slotCollision | ackSequence
deriving DecidableEq, Repr

/-- `GSTATE` (rule R23). The reserved code 3 is never held (log entry 23). -/
inductive GState where
  | idle | inFrame | done
deriving DecidableEq, Repr

/-- A frame's kind, `G_KIND` (rules R28, R155). -/
inductive FrameKind where
  | r2tGap | tagReply
deriving DecidableEq, Repr

/-- The nine event causes (rule R320). -/
inductive Cause where
  | done | roundEnd | idNew | discont | cfgErr | idOvf | wrIgn | spurTxd | busErr
deriving DecidableEq, Repr

/-- One frame-buffer entry `(I, Q)` (rule R83). -/
structure Sample where
  i : BitVec 16
  q : BitVec 16
deriving DecidableEq, Repr

/-- One identifier-store entry (rule R85). -/
structure IdEntry where
  epc : BitVec 96
  pc  : BitVec 16
deriving DecidableEq, Repr

/-- The synthesis parameters: fixed per instance, and arguments of the model (rule R6, `93_implementation_defined.md` I16).
No instruction changes them, `RESET` included. -/
structure Params where
  /-- `FB_DEPTH`, legal 1..65535 -/
  fbDepth : Nat
  /-- `ID_CAP`, legal 1..64 -/
  idCap   : Nat
deriving DecidableEq, Repr

/-- The configuration registers (rules R44 to R52), each at the width of its defined bits. -/
structure Cfg where
  gateKon   : BitVec 8
  gateKoff  : BitVec 8
  gateTofs  : BitVec 32
  nfShift   : BitVec 5
  nfInit    : BitVec 32
  minLen    : BitVec 16
  maxLen    : BitVec 16
  hold      : BitVec 16
  decSph    : BitVec 12
  preThr    : BitVec 5
  ambFrac   : BitVec 5
  ambRun    : BitVec 8
  rdrQ      : BitVec 4
  maxRounds : BitVec 16
  tSlot     : BitVec 32
  qryCfg    : BitVec 9
  selCfg    : BitVec 23
  selMask   : BitVec 32
  txTiming  : BitVec 32
  dbgCtrl   : BitVec 1
deriving DecidableEq, Repr

/-- The Reader session registers (rules R22, R24). -/
structure Reader where
  rstate     : RState
  txBusy     : Bool
  stopReq    : Bool
  roundNo    : BitVec 32
  slotsRem   : BitVec 17
  tWait      : BitVec 32
  lastHandle : BitVec 16
  lastCmd    : BitVec 3
deriving DecidableEq, Repr

/-- The Gate registers (rules R23, R28). -/
structure Gate where
  gstate  : GState
  nf      : BitVec 32
  gLen    : BitVec 16
  gLastHi : BitVec 16
  gBelow  : BitVec 16
  gKind   : FrameKind
  gStart  : BitVec 32
deriving DecidableEq, Repr

/-- The tally counters of the run, of the round and of the last ended round (rule R26). -/
structure Tally where
  tSuccess   : BitVec 32
  tCollision : BitVec 32
  tEmpty     : BitVec 32
  tRounds    : BitVec 32
  tDistinct  : BitVec 32
  rSuccess   : BitVec 32
  rCollision : BitVec 32
  rEmpty     : BitVec 32
  lSuccess   : BitVec 32
  lCollision : BitVec 32
  lEmpty     : BitVec 32
deriving DecidableEq, Repr

/-- The diagnostic counters (rule R27). -/
structure Diag where
  discontCnt : BitVec 32
  blipCnt    : BitVec 32
  gapCnt     : BitVec 32
  forcedCnt  : BitVec 32
  hrepCnt    : BitVec 32
  timeoutCnt : BitVec 32
deriving DecidableEq, Repr

/-- The last-decode registers (rule R31). -/
structure DecLast where
  last   : BitVec 32
  lastT  : BitVec 16
  lastRn : BitVec 16
deriving DecidableEq, Repr

/-- The three internal memories (rules R83 to R85), each a list of (index, value) pairs in the canonical form
`Memory.wf`: indices strictly rising and no value equal to what an unlisted index reads as (log entry 12). -/
structure Memory where
  fb  : List (Nat × Sample)
  hb  : List (Nat × Bool)
  ids : List (Nat × IdEntry)
deriving DecidableEq, Repr

/-- One Command on the command port (rule R131). -/
structure Command where
  kind   : BitVec 3
  word   : BitVec 128
  len    : BitVec 8
  pre    : BitVec 1
  timing : BitVec 32
deriving DecidableEq, Repr

/-- What the block puts on an output port during a step: a Command (rule R131), the bytes of one debug record
(rule R133), or the data a bus read returns (rule R113). -/
inductive Output where
  | cmd (c : Command)
  | dbg (bytes : List (BitVec 8))
  | rdata (v : BitVec 32)
deriving DecidableEq, Repr

/-- The state of the block. `inputs` (the port activity not yet taken, oldest first) and `outs` (the outputs emitted
so far, oldest first) are the model's own fields (log entries 1 and 11); `par` holds the arguments of rule R6; every other
field is the spec's. -/
structure State where
  par        : Params
  cfg        : Cfg
  rdr        : Reader
  gate       : Gate
  tally      : Tally
  diag       : Diag
  dec        : DecLast
  lastIdx    : BitVec 32
  haveLast   : Bool
  cfgErr     : Bool
  cfgErrCode : BitVec 4
  irqPend    : BitVec 9
  irqEn      : BitVec 9
  mem        : Memory
  inputs     : List Item
  outs       : List Output
deriving DecidableEq, Repr

/-- Why the machine stops with a fault. -/
inductive Fault where
  /-- Raised by a sample that would access a frame-buffer entry outside `0..FB_DEPTH-1`, an entry that does
  not exist (rule R83). Safe: validation makes it unreachable, and the model stops where it claims nothing. -/
  | frameBufferIndex
deriving DecidableEq, Repr

/-- Why the machine gives an instruction no meaning. -/
inductive Refusal where
  /-- Raised by `exec` for a row of the opcode table that has no meaning yet. Safe. -/
  | notModelled (mnemonic : String)
  /-- Raised by `step` for a Command or a reply whose bits are no row of the table (rules R139, R161). Safe: the block
  has no encoding for it. -/
  | undecodable (e : DecodeError)
deriving DecidableEq, Repr

/-- The configuration registers after reset (the table of rule R34). -/
def Cfg.reset : Cfg :=
  { gateKon := 32, gateKoff := 24, gateTofs := 256, nfShift := 6, nfInit := 256, minLen := 64, maxLen := 8192,
    hold := 128, decSph := 25, preThr := 8, ambFrac := 4, ambRun := 3, rdrQ := 2, maxRounds := 1000, tSlot := 1000,
    qryCfg := 0, selCfg := 0, selMask := 0, txTiming := 0, dbgCtrl := 0 }

/-- This hardware's synthesis parameters (rule R6). -/
def Params.thisHardware : Params := { fbDepth := Config.fbDepth, idCap := Config.idCap }

/-- An instance of the block right after reset (rules R58, R360): nothing pending at its ports, no output emitted. -/
def State.resetOf (p : Params) : State :=
  { par := p
    cfg := Cfg.reset
    rdr := { rstate := .done, txBusy := false, stopReq := false, roundNo := 0, slotsRem := 0, tWait := 0,
             lastHandle := 0, lastCmd := 0 }
    gate := { gstate := .idle, nf := 256, gLen := 0, gLastHi := 0, gBelow := 0, gKind := .r2tGap, gStart := 0 }
    tally := { tSuccess := 0, tCollision := 0, tEmpty := 0, tRounds := 0, tDistinct := 0, rSuccess := 0,
               rCollision := 0, rEmpty := 0, lSuccess := 0, lCollision := 0, lEmpty := 0 }
    diag := { discontCnt := 0, blipCnt := 0, gapCnt := 0, forcedCnt := 0, hrepCnt := 0, timeoutCnt := 0 }
    dec := { last := 0, lastT := 0, lastRn := 0 }
    lastIdx := 0
    haveLast := false
    cfgErr := false
    cfgErrCode := 0
    irqPend := 0
    irqEn := 0
    mem := { fb := [], hb := [], ids := [] }
    inputs := []
    outs := [] }

/-- This hardware right after reset (rules R6, R58, R360). -/
def State.reset : State := State.resetOf Params.thisHardware

end Sys2Proof.Machine
end

