-- ==== Sys2Proof/Machine/Ops.lean ====
section
/-! DEFINITION. The shared operations over memory and registers: reading and writing the internal memories in their
canonical form, the counters, raising and clearing event causes (the block's whole exception mechanism: it has no trap
and no return, `60_exceptions.md` rules R332, R333), putting outputs on the ports, and resetting the Gate. -/

namespace Sys2Proof.Machine

/-! ### The internal memories -/

/-- What an unlisted index of a memory reads as: `d`. -/
def Store.read {α : Type} (d : α) : List (Nat × α) → Nat → α
  | [], _ => d
  | (k, v) :: rest, a => if a = k then v else Store.read d rest a

/-- Write `v` at `a`, keeping the canonical form: writing the value an unlisted index reads as removes the entry. -/
def Store.write {α : Type} [DecidableEq α] (d : α) : List (Nat × α) → Nat → α → List (Nat × α)
  | [], a, v => if v = d then [] else [(a, v)]
  | (k, x) :: rest, a, v =>
    if a < k then (if v = d then (k, x) :: rest else (a, v) :: (k, x) :: rest)
    else if a = k then (if v = d then rest else (a, v) :: rest)
    else (k, x) :: Store.write d rest a v

/-- The canonical form of one memory: indices strictly rising, no value equal to the default. -/
def Store.wf {α : Type} [DecidableEq α] (d : α) : List (Nat × α) → Bool
  | [] => true
  | (k, v) :: rest => v ≠ d && rest.all (fun p => k < p.1) && Store.wf d rest

/-- What a frame-buffer entry that nothing has written reads as (log entry 9: the spec leaves it unspecified, and no
rule reads it). -/
def Sample.unwritten : Sample := { i := 0, q := 0 }

/-- What an identifier-store entry that nothing has written holds; the `ID_TABLE` window never shows it (rule R85). -/
def IdEntry.unwritten : IdEntry := { epc := 0, pc := 0 }

/-- `FB[k]` (rule R83). -/
def Memory.readFb (m : Memory) (k : Nat) : Sample := Store.read Sample.unwritten m.fb k

/-- `FB[k] <- v` (rule R83). -/
def Memory.writeFb (m : Memory) (k : Nat) (v : Sample) : Memory :=
  { m with fb := Store.write Sample.unwritten m.fb k v }

/-- `HB[rn]` (rule R84). -/
def Memory.readHb (m : Memory) (rn : BitVec 16) : Bool := Store.read false m.hb rn.toNat

/-- `HB[rn] <- 1` (rule R84). -/
def Memory.setHb (m : Memory) (rn : BitVec 16) : Memory := { m with hb := Store.write false m.hb rn.toNat true }

/-- `HB[0..65535] <- 0` (rule R243). -/
def Memory.clearHb (m : Memory) : Memory := { m with hb := [] }

/-- `IDS[k]` (rule R85). -/
def Memory.readId (m : Memory) (k : Nat) : IdEntry := Store.read IdEntry.unwritten m.ids k

/-- `IDS[k] <- e` (rule R85). -/
def Memory.writeId (m : Memory) (k : Nat) (e : IdEntry) : Memory :=
  { m with ids := Store.write IdEntry.unwritten m.ids k e }

/-- Invalidate every identifier-store entry (rule R295: "IDS emptied"). -/
def Memory.clearIds (m : Memory) : Memory := { m with ids := [] }

/-- The canonical form of the three memories. -/
def Memory.wf (m : Memory) : Bool :=
  Store.wf Sample.unwritten m.fb && Store.wf false m.hb && Store.wf IdEntry.unwritten m.ids

/-! ### Event causes -/

/-- The code of a cause: its bit in `IRQ_PEND` and `IRQ_EN` (rules R53, R320). -/
def Cause.code : Cause → Nat
  | .done => 0
  | .roundEnd => 1
  | .idNew => 2
  | .discont => 3
  | .cfgErr => 4
  | .idOvf => 5
  | .wrIgn => 6
  | .spurTxd => 7
  | .busErr => 8

/-- The `IRQ_PEND` bit of a cause. -/
def Cause.mask (c : Cause) : BitVec 9 := 1#9 <<< c.code

/-- `raise CAUSE`: set the pending bit of the cause and nothing else (rule R320). -/
def raise (c : Cause) (s : State) : State := { s with irqPend := s.irqPend ||| c.mask }

/-- The acknowledgement of causes: each bit written 1 is cleared (rule R292). -/
def clearPending (data : BitVec 32) (s : State) : State :=
  { s with irqPend := s.irqPend &&& ~~~(data.extractLsb' 0 9) }

/-- `IRQ_EN <- data[8:0]` (rule R54). -/
def writeIrqEn (data : BitVec 32) (s : State) : State := { s with irqEn := data.extractLsb' 0 9 }

/-! ### Outputs -/

/-- Put an output on its port. -/
def emit (o : Output) (s : State) : State := { s with outs := s.outs ++ [o] }

/-- `ISSUE(kind, word, len, pre)` (rule R241); the word and its length are given as the bits in transmission order. -/
def issue (kind : BitVec 3) (bits : List Bool) (pre : BitVec 1) (s : State) : State :=
  let s := emit (.cmd { kind, word := BitVec.ofNat 128 (msbFirst bits), len := BitVec.ofNat 8 bits.length, pre,
                        timing := s.cfg.txTiming }) s
  { s with rdr := { s.rdr with txBusy := true, tWait := 0, lastCmd := kind } }

/-! ### The Gate -/

/-- `GATE_RESET()` (rule R180). -/
def gateReset (s : State) : State :=
  { s with gate := { s.gate with gstate := .idle, gLen := 0, gLastHi := 0, gBelow := 0, gKind := .r2tGap, gStart := 0 } }

end Sys2Proof.Machine
end

