-- ==== Sys2Proof/Machine/Flags.lean ====
section
/-! DEFINITION. Every flag and derived signal of the block: `listening`, `expect`, `RUNNING`, `ID_FULL`, `STATUS`, `irq`
(`10_state.md` rules R29 to R32, R43; `60_exceptions.md` rule R330). -/

namespace Sys2Proof.Machine

/-- The code of `RSTATE` (rule R22). -/
def RState.code : RState → BitVec 3
  | .done => 0
  | .roundStart => 1
  | .awaitSlotReply => 2
  | .slotEmpty => 3
  | .slotSuccess => 4
  | .slotCollision => 5
  | .ackSequence => 6

/-- The code of `GSTATE` (rule R23). -/
def GState.code : GState → BitVec 2
  | .idle => 0
  | .inFrame => 1
  | .done => 2

/-- The code of a frame kind (rule R155). -/
def FrameKind.code : FrameKind → BitVec 1
  | .r2tGap => 0
  | .tagReply => 1

/-- *running* means `RSTATE ≠ DONE` (rule R22). -/
def running (s : State) : Bool := s.rdr.rstate ≠ .done

/-- `listening` (rule R29). -/
def listening (s : State) : Bool :=
  (s.rdr.rstate == .awaitSlotReply || s.rdr.rstate == .ackSequence) && !s.rdr.txBusy

/-- The reply length the Reader asks of the decoder (rule R30). -/
inductive Expect where
  | rn16 | id
deriving DecidableEq, Repr

/-- `expect` (rule R30); where the rule gives none, `rn16`, which nothing observes (log entry 13). -/
def expect (s : State) : Expect := if s.rdr.rstate = .ackSequence then .id else .rn16

/-- `ID_FULL`: `T_DISTINCT = ID_CAP` (rule R32). -/
def idFull (s : State) : Bool := s.tally.tDistinct.toNat == s.par.idCap

/-- `STATUS.FRAME_KIND`: `G_KIND` while a frame is open, else 0 (rule R43). -/
def frameKindBit (s : State) : BitVec 1 := if s.gate.gstate = .inFrame then s.gate.gKind.code else 0

/-- The `STATUS` register (rule R43), most significant field first. -/
def status (s : State) : BitVec 32 :=
  0#18 ++ BitVec.ofBool (idFull s) ++ frameKindBit s ++ BitVec.ofBool s.haveLast ++ BitVec.ofBool (running s) ++
    BitVec.ofBool s.cfgErr ++ BitVec.ofBool s.rdr.stopReq ++ BitVec.ofBool (listening s) ++
    BitVec.ofBool s.rdr.txBusy ++ s.gate.gstate.code ++ 0#1 ++ s.rdr.rstate.code

/-- The `irq` output (rules R132, R330). -/
def irq (s : State) : Bool := s.irqPend &&& s.irqEn ≠ 0

end Sys2Proof.Machine
end

