-- ==== Sys2Proof/Machine/Operands.lean ====
section
/-! DEFINITION. Every operand of the instructions: the host register map as a read and as a configuration store
(`10_state.md` rules R34 to R57, `20_memory.md` rule R85), the fields of `QRY_CFG` and `SEL_CFG`, the CRCs and the Command
bits made from them (`30_encoding.md` rules R134 to R141, `42_reader.md` rule R242), a sample's energy (rule R170) and
the FM0 line code (rules R150, R151). -/

namespace Sys2Proof.Machine

/-! ### Host registers -/

/-- The stored bits of `QRY_CFG`: all of [8:0] but the hardwired `M` and `TREXT` (rule R48). -/
def qryCfgMask : BitVec 9 := 0x1F1

/-- A word of the `ID_TABLE` window, `off` from its start: 0 for an invalid entry (rule R85). -/
def idTableWord (s : State) (off : Nat) : BitVec 32 :=
  let k := off / 16
  let e := s.mem.readId k
  if s.tally.tDistinct.toNat ≤ k then 0
  else match off % 16 / 4 with
    | 0 => e.epc.extractLsb' 64 32
    | 1 => e.epc.extractLsb' 32 32
    | 2 => e.epc.extractLsb' 0 32
    | _ => e.pc.setWidth 32

/-- The configuration register at a word-aligned offset, or none where the range holds none (rule R34). -/
def readConfig (c : Cfg) (addr : Nat) : Option (BitVec 32) :=
  match addr with
  | 0x020 => some (c.gateKon.setWidth 32)
  | 0x024 => some (c.gateKoff.setWidth 32)
  | 0x028 => some c.gateTofs
  | 0x02C => some (c.nfShift.setWidth 32)
  | 0x030 => some c.nfInit
  | 0x034 => some (c.minLen.setWidth 32)
  | 0x038 => some (c.maxLen.setWidth 32)
  | 0x03C => some (c.hold.setWidth 32)
  | 0x040 => some (c.decSph.setWidth 32)
  | 0x044 => some (c.preThr.setWidth 32)
  | 0x048 => some (c.ambFrac.setWidth 32)
  | 0x04C => some (c.ambRun.setWidth 32)
  | 0x060 => some (c.rdrQ.setWidth 32)
  | 0x064 => some (c.maxRounds.setWidth 32)
  | 0x068 => some c.tSlot
  | 0x06C => some ((c.qryCfg &&& qryCfgMask).setWidth 32)
  | 0x070 => some (c.selCfg.setWidth 32)
  | 0x074 => some c.selMask
  | 0x078 => some c.txTiming
  | 0x07C => some (c.dbgCtrl.setWidth 32)
  | _ => none

/-- The configuration after a store of `data` at a word-aligned offset, or none where the range holds no register:
only the defined bits are stored (rules R44 to R52, R57). -/
def storeConfig (c : Cfg) (addr : Nat) (data : BitVec 32) : Option Cfg :=
  match addr with
  | 0x020 => some { c with gateKon := data.extractLsb' 0 8 }
  | 0x024 => some { c with gateKoff := data.extractLsb' 0 8 }
  | 0x028 => some { c with gateTofs := data }
  | 0x02C => some { c with nfShift := data.extractLsb' 0 5 }
  | 0x030 => some { c with nfInit := data }
  | 0x034 => some { c with minLen := data.extractLsb' 0 16 }
  | 0x038 => some { c with maxLen := data.extractLsb' 0 16 }
  | 0x03C => some { c with hold := data.extractLsb' 0 16 }
  | 0x040 => some { c with decSph := data.extractLsb' 0 12 }
  | 0x044 => some { c with preThr := data.extractLsb' 0 5 }
  | 0x048 => some { c with ambFrac := data.extractLsb' 0 5 }
  | 0x04C => some { c with ambRun := data.extractLsb' 0 8 }
  | 0x060 => some { c with rdrQ := data.extractLsb' 0 4 }
  | 0x064 => some { c with maxRounds := data.extractLsb' 0 16 }
  | 0x068 => some { c with tSlot := data }
  | 0x06C => some { c with qryCfg := data.extractLsb' 0 9 &&& qryCfgMask }
  | 0x070 => some { c with selCfg := data.extractLsb' 0 23 }
  | 0x074 => some { c with selMask := data }
  | 0x078 => some { c with txTiming := data }
  | 0x07C => some { c with dbgCtrl := data.extractLsb' 0 1 }
  | _ => none

/-- The tally and status block (rule R56), or none where it holds no register. -/
def readTally (s : State) (addr : Nat) : Option (BitVec 32) :=
  match addr with
  | 0x100 => some s.rdr.roundNo
  | 0x104 => some (s.rdr.slotsRem.setWidth 32)
  | 0x108 => some s.tally.tRounds
  | 0x10C => some s.tally.tSuccess
  | 0x110 => some s.tally.tCollision
  | 0x114 => some s.tally.tEmpty
  | 0x118 => some s.tally.tDistinct
  | 0x11C => some s.tally.rSuccess
  | 0x120 => some s.tally.rCollision
  | 0x124 => some s.tally.rEmpty
  | 0x128 => some s.tally.lSuccess
  | 0x12C => some s.tally.lCollision
  | 0x130 => some s.tally.lEmpty
  | 0x134 => some s.gate.nf
  | 0x138 => some s.lastIdx
  | 0x13C => some s.rdr.tWait
  | 0x140 => some s.diag.discontCnt
  | 0x144 => some s.diag.blipCnt
  | 0x148 => some s.diag.gapCnt
  | 0x14C => some s.diag.forcedCnt
  | 0x150 => some s.diag.hrepCnt
  | 0x154 => some s.diag.timeoutCnt
  | 0x158 => some (s.rdr.lastHandle.setWidth 32)
  | 0x15C => some (s.rdr.lastCmd.setWidth 32)
  | 0x160 => some s.dec.last
  | 0x164 => some (s.dec.lastT.setWidth 32)
  | 0x168 => some (s.dec.lastRn.setWidth 32)
  | _ => none

/-- `BLOCK_ID` (rule R40). -/
def blockId : BitVec 32 := 0x47325244

/-- `VERSION` (rule R41). -/
def version : BitVec 32 := 1

/-- The identification, control and interrupt registers (rules R40 to R43, R53 to R55); `CTRL` reads 0. -/
def readControl (s : State) (addr : Nat) : Option (BitVec 32) :=
  match addr with
  | 0x000 => some blockId
  | 0x004 => some version
  | 0x008 => some 0
  | 0x00C => some (status s)
  | 0x010 => some (s.irqPend.setWidth 32)
  | 0x014 => some (s.irqEn.setWidth 32)
  | 0x018 => some (s.cfgErrCode.setWidth 32)
  | _ => none

/-- The value of the register map at a word-aligned offset; an unmapped offset reads 0 (rules R34, R81). -/
def readRegister (s : State) (addr : BitVec 12) : BitVec 32 :=
  let a := addr.toNat
  if a < 0x020 then (readControl s a).getD 0
  else if a < 0x080 then (readConfig s.cfg a).getD 0
  else if a < 0x400 then (readTally s a).getD 0
  else if a < 0x800 then idTableWord s (a - 0x400)
  else 0

/-- An access whose offset has `offset[1:0] ≠ 0` is misaligned (rule R82). -/
def misaligned (addr : BitVec 12) : Bool := addr.extractLsb' 0 2 ≠ 0

/-! ### Configuration fields -/

/-- `QRY_CFG.DR` (rule R48). -/
def Cfg.dr (c : Cfg) : BitVec 1 := c.qryCfg.extractLsb' 0 1
/-- `QRY_CFG.SEL` (rule R48). -/
def Cfg.qSel (c : Cfg) : BitVec 2 := c.qryCfg.extractLsb' 4 2
/-- `QRY_CFG.SESSION` (rule R48). -/
def Cfg.session (c : Cfg) : BitVec 2 := c.qryCfg.extractLsb' 6 2
/-- `QRY_CFG.TARGET` (rule R48). -/
def Cfg.target (c : Cfg) : BitVec 1 := c.qryCfg.extractLsb' 8 1
/-- `SEL_CFG.SEL_EN` (rule R49). -/
def Cfg.selEn (c : Cfg) : BitVec 1 := c.selCfg.extractLsb' 0 1
/-- `SEL_CFG.STARGET` (rule R49). -/
def Cfg.sTarget (c : Cfg) : BitVec 3 := c.selCfg.extractLsb' 1 3
/-- `SEL_CFG.ACTION` (rule R49). -/
def Cfg.action (c : Cfg) : BitVec 3 := c.selCfg.extractLsb' 4 3
/-- `SEL_CFG.MEMBANK` (rule R49). -/
def Cfg.memBank (c : Cfg) : BitVec 2 := c.selCfg.extractLsb' 7 2
/-- `SEL_CFG.POINTER` (rule R49). -/
def Cfg.pointer (c : Cfg) : BitVec 7 := c.selCfg.extractLsb' 9 7
/-- `SEL_CFG.LENGTH` (rule R49). -/
def Cfg.length (c : Cfg) : BitVec 6 := c.selCfg.extractLsb' 16 6
/-- `SEL_CFG.TRUNC` (rule R49). -/
def Cfg.trunc (c : Cfg) : BitVec 1 := c.selCfg.extractLsb' 22 1

/-! ### CRCs -/

/-- One bit of CRC-5 (rule R140). -/
def crc5Step (c : BitVec 5) (b : Bool) : BitVec 5 :=
  if c.getLsbD 4 ^^ b then (c <<< 1) ^^^ 0b01001 else c <<< 1

/-- CRC-5 of a bit sequence (rule R140). -/
def crc5 (bits : List Bool) : BitVec 5 := bits.foldl crc5Step 0b01001

/-- One bit of CRC-16 (rule R141). -/
def crc16Step (c : BitVec 16) (b : Bool) : BitVec 16 :=
  if c.getLsbD 15 ^^ b then (c <<< 1) ^^^ 0x1021 else c <<< 1

/-- The uninverted CRC-16 register after a bit sequence (rule R141). -/
def crc16Register (bits : List Bool) : BitVec 16 := bits.foldl crc16Step 0xFFFF

/-- CRC-16 of a bit sequence (rule R141). -/
def crc16 (bits : List Bool) : BitVec 16 := crc16Register bits ^^^ 0xFFFF

/-! ### Commands from the configuration -/

/-- The CRC-5 of the Query the configuration asks for: over its first 17 bits (rule R134). -/
def Cfg.queryCrc (c : Cfg) : BitVec 5 := crc5 ((queryBits c.dr c.qSel c.session c.target c.rdrQ 0).take 17)

/-- The CRC-16 of the Select the configuration asks for: over its first `29 + L` bits (rule R138). -/
def Cfg.selectCrc (c : Cfg) : BitVec 16 :=
  crc16 (selectBody c.sTarget c.action c.memBank c.pointer c.length c.selMask c.trunc)

/-! ### Samples -/

/-- The energy of a sample, `I*I + Q*Q` (rule R170). -/
def energy (i q : BitVec 16) : Nat := (i.toInt * i.toInt + q.toInt * q.toInt).toNat

/-! ### The FM0 line code -/

/-- The preamble template `PRE`, `true` for level +1 (rule R151). -/
def preamble : List Bool :=
  [true, true, false, true, false, false, true, false, false, false, true, true]

/-- The half-symbol levels of a bit sequence after a half-symbol at level `last` (rule R150): the level inverts at every
symbol boundary, and a data-0 also in mid-symbol. -/
def fm0Body : Bool → List Bool → List Bool
  | _, [] => []
  | last, b :: bits =>
    let h2 := if b then !last else last
    (!last) :: h2 :: fm0Body h2 bits

/-- `FM0_HALVES(bits)`: the preamble, the bits and a dummy data-1 (rule R150). -/
def fm0Halves (bits : List Bool) : List Bool := preamble ++ fm0Body true (bits ++ [true])

end Sys2Proof.Machine
end

