-- ==== Sys2Proof/Machine/Decoder.lean ====
section
/-! DEFINITION. The Tag Decoder (`41_decoder.md` rules R200 to R212): a pure function of a frame's sample energies, the
expected reply length and the decoder configuration, in exact integer arithmetic. -/

namespace Sys2Proof.Machine

/-- A frame the Gate emits; its samples are `FB[0..len-1]` (rule R155). -/
structure Frame where
  kind   : FrameKind
  start  : BitVec 32
  len    : BitVec 16
  forced : Bool
deriving DecidableEq, Repr

/-- `KIND` of a Decoded Reply (rule R31). -/
inductive ReplyKind where
  | noReply | randomNumber | identifierReply | collisionOrNoise
deriving DecidableEq, Repr

/-- `REASON` of a Decoded Reply (rule R31). -/
inductive Reason where
  | decoded | gapFrame | tooShort | noPeak | truncated | ambiguityRun
deriving DecidableEq, Repr

/-- A Decoded Reply `(KIND, VALID, REASON, RN, PC, EPC, T)` (rule R154). The rules do not say what the fields hold that a
kind lacks: the results below put 0 there, which is the model's choice and read by no rule (DESIGN CHOICE, log entry 25). -/
structure Decoded where
  kind   : ReplyKind
  valid  : Bool
  reason : Reason
  rn     : BitVec 16
  pc     : BitVec 16
  epc    : BitVec 96
  t      : Nat
deriving DecidableEq, Repr

/-- The code of a reply kind (rule R31). -/
def ReplyKind.code : ReplyKind → BitVec 2
  | .noReply => 0
  | .randomNumber => 1
  | .identifierReply => 2
  | .collisionOrNoise => 3

/-- The code of a reason (rule R31). -/
def Reason.code : Reason → BitVec 3
  | .decoded => 0
  | .gapFrame => 1
  | .tooShort => 2
  | .noPeak => 3
  | .truncated => 4
  | .ambiguityRun => 5

/-- `NoReply` with a reason (rules R201, R202, R205); it has no `RN`, `PC`, `EPC` and `T`, 0 here (log entry 25). -/
def Decoded.noReply (r : Reason) : Decoded :=
  { kind := .noReply, valid := false, reason := r, rn := 0, pc := 0, epc := 0, t := 0 }

/-- `CollisionOrNoise` with a reason at offset `t` (rules R206, R208); it has no `RN`, `PC` and `EPC`, 0 here (log entry
25). -/
def Decoded.collision (r : Reason) (t : Nat) : Decoded :=
  { kind := .collisionOrNoise, valid := false, reason := r, rn := 0, pc := 0, epc := 0, t }

/-! ### Half-symbol metric and preamble search -/

/-- `H(u)`: the energy of the `p` samples from `u` on (rule R203). -/
def windowEnergy (es : List Nat) (p u : Nat) : Nat := ((es.drop u).take p).sum

/-- `D(u) = L * H(u) - P * S`, with `total` the frame's energy `S` (rule R203). -/
def metric (es : List Nat) (total p u : Nat) : Int :=
  (es.length : Int) * (windowEnergy es p u : Int) - (p : Int) * (total : Int)

/-- The metrics of the 12 half-symbol windows of a preamble at offset `t`: `D(t + j*P)` for `j = 0..11` (rule R204). -/
def preambleMetrics (es : List Nat) (total p t : Nat) : List Int :=
  (List.range Config.preHalves).map fun j => metric es total p (t + j * p)

/-- `C(t)`: the correlation with the preamble template (rule R204). -/
def correlation (es : List Nat) (total p t : Nat) : Int :=
  (List.zipWith (fun (b : Bool) (d : Int) => if b then d else -d) preamble (preambleMetrics es total p t)).sum

/-- `M(t)`: the sum of the windows' magnitudes (rule R204). -/
def magnitude (es : List Nat) (total p t : Nat) : Int :=
  ((preambleMetrics es total p t).map fun d => (d.natAbs : Int)).sum

/-- The smallest `t ≤ n` at which `|f t|` is largest, with that largest value (rule R204). -/
def peak (f : Nat → Int) : Nat → Nat × Nat
  | 0 => (0, (f 0).natAbs)
  | n + 1 =>
    let best := peak f n
    if best.2 < (f (n + 1)).natAbs then (n + 1, (f (n + 1)).natAbs) else best

/-! ### Demodulation -/

/-- `sgn(x)` of rule R8, `true` for +1: `sgn(0) = +1`. -/
def nonNeg (x : Int) : Bool := 0 ≤ x

/-- The bit of the symbol at `u`: 1 when its two halves lie on the same side of the frame mean (rule R207). -/
def symbolBit (es : List Nat) (total p u : Nat) : Bool :=
  nonNeg (metric es total p u) == nonNeg (metric es total p (u + p))

/-- A window is ambiguous when `192*|D(u)| < AMB_FRAC*M*` (rule R208). -/
def windowAmbiguous (es : List Nat) (total p frac : Nat) (m : Int) (u : Nat) : Bool :=
  192 * ((metric es total p u).natAbs : Int) < (frac : Int) * m

/-- A symbol is ambiguous when either of its halves is (rule R208). -/
def symbolAmbiguous (es : List Nat) (total p frac : Nat) (m : Int) (u : Nat) : Bool :=
  windowAmbiguous es total p frac m u || windowAmbiguous es total p frac m (u + p)

/-- Some run of `run` consecutive symbols is ambiguous (rules R200, R208). -/
def hasRun (run : Nat) (amb : List Bool) : Bool :=
  (List.range (amb.length + 1)).any fun b0 => b0 + run ≤ amb.length && ((amb.drop b0).take run).all id

/-! ### Results -/

/-- `RN16_RESULT(x, t*)` (rule R210); it has no `PC` and `EPC`, 0 here (log entry 25). -/
def rn16Result (x : List Bool) (t : Nat) : Decoded :=
  { kind := .randomNumber, valid := true, reason := .decoded, rn := BitVec.ofNat 16 (msbFirst x), pc := 0, epc := 0, t }

/-- `ID_RESULT(x, t*)`, with the check value of rule R209 (rule R211); it has no `RN`, 0 here (log entry 25). -/
def idResult (x : List Bool) (t : Nat) : Decoded :=
  { kind := .identifierReply
    valid := crc16 (x.take 112) == BitVec.ofNat 16 (fieldAt x 112 16)
    reason := .decoded
    rn := 0
    pc := BitVec.ofNat 16 (fieldAt x 0 16)
    epc := BitVec.ofNat 96 (fieldAt x 16 96)
    t }

/-- The payload length the Reader asks for (rule R206). -/
def Expect.bits : Expect → Nat
  | .rn16 => Config.rnBits
  | .id => Config.idBits

/-- The payload from offset `d0` on: its ambiguity verdict, then its bits by reply kind (rules R200, R207 to R211). -/
def decodePayload (c : Cfg) (es : List Nat) (total t : Nat) (m : Int) (expect : Expect) : Decoded :=
  let p := c.decSph.toNat
  let d0 := t + 12 * p
  let symbols := (List.range expect.bits).map fun b => d0 + 2 * b * p
  let amb := symbols.map (symbolAmbiguous es total p c.ambFrac.toNat m)
  let x := symbols.map (symbolBit es total p)
  if hasRun c.ambRun.toNat amb then .collision .ambiguityRun t
  else match expect with
    | .rn16 => rn16Result x t
    | .id => idResult x t

/-- The decode of a tag-reply frame long enough to search, given its sample energies (rules R200, R203 to R206). -/
def decodeSearch (c : Cfg) (es : List Nat) (expect : Expect) : Decoded :=
  let p := c.decSph.toNat
  let total := es.sum
  let t := (peak (correlation es total p) (es.length - 12 * p)).1
  let m := magnitude es total p t
  if m = 0 ∨ 16 * ((correlation es total p t).natAbs : Int) < (c.preThr.toNat : Int) * m then .noReply .noPeak
  else if es.length < t + 12 * p + 2 * expect.bits * p then .collision .truncated t
  else decodePayload c es total t m expect

/-- `DECODE` on a frame's kind and sample energies (rules R200 to R202). -/
def decodeEnergies (c : Cfg) (kind : FrameKind) (es : List Nat) (expect : Expect) : Decoded :=
  match kind with
  | .r2tGap => .noReply .gapFrame
  | .tagReply => if es.length < 12 * c.decSph.toNat then .noReply .tooShort else decodeSearch c es expect

/-- The samples of a frame, `FB[0..len-1]` (rules R83, R155). -/
def frameSamples (m : Memory) (f : Frame) : List Sample := (List.range f.len.toNat).map m.readFb

/-- `DECODE(F, expect)` (rule R200). -/
def decode (s : State) (f : Frame) (expect : Expect) : Decoded :=
  decodeEnergies s.cfg f.kind ((frameSamples s.mem f).map fun x => energy x.i x.q) expect

/-- The `DEC_LAST` value of a Decoded Reply: `{25'b0, REASON, 0, VALID, KIND}` (rule R212). -/
def Decoded.latch (r : Decoded) : BitVec 32 :=
  0#25 ++ r.reason.code ++ 0#1 ++ BitVec.ofBool r.valid ++ r.kind.code

/-- `DEC_LAST_T`: the offset, for the reasons that have one (rule R212). -/
def Decoded.latchT (r : Decoded) : BitVec 16 :=
  match r.reason with
  | .decoded | .truncated | .ambiguityRun => BitVec.ofNat 16 r.t
  | .gapFrame | .tooShort | .noPeak => 0

/-- `DEC_LAST_RN`: the RN16 or the PC word (rule R212). -/
def Decoded.latchRn (r : Decoded) : BitVec 16 :=
  match r.kind with
  | .randomNumber => r.rn
  | .identifierReply => r.pc
  | .noReply | .collisionOrNoise => 0

/-- `LATCH_LAST(R)` (rule R212). -/
def latchLast (r : Decoded) (s : State) : State :=
  { s with dec := { last := r.latch, lastT := r.latchT, lastRn := r.latchRn } }

end Sys2Proof.Machine
end

