-- ==== Sys2Proof/Machine/Reader.lean ====
section
/-! DEFINITION. The Reader protocol state machine (`42_reader.md` rules R240 to R262): rounds, Commands, classification,
slot end, stop and `DONE`, and debug records. Every procedure is a total function from state to state. -/

namespace Sys2Proof.Machine

/-- A slot's outcome (rule R259). -/
inductive SlotOutcome where
  | empty | success | collision
deriving DecidableEq, Repr

/-- `RSTATE <- r`. -/
def setRState (r : RState) (s : State) : State := { s with rdr := { s.rdr with rstate := r } }

/-- `ENTER_DONE()` (rule R257). -/
def enterDone (s : State) : State :=
  raise .done (gateReset { s with rdr := { s.rdr with rstate := .done, stopReq := false } })

/-! ### The Commands the Reader emits -/

/-- Emit a `QUERY` with the given fields: `START_QUERY()` (rules R134, R246). -/
def emitQuery (dr : BitVec 1) (sel session : BitVec 2) (target : BitVec 1) (q : BitVec 4) (crc : BitVec 5)
    (s : State) : State :=
  let s := { s with rdr := { s.rdr with roundNo := s.rdr.roundNo + 1 } }
  setRState .awaitSlotReply (issue 1 (queryBits dr sel session target q crc) 1 s)

/-- Emit a `QUERYREP` and wait for the next slot's reply (rules R135, R259). -/
def emitQueryRep (session : BitVec 2) (s : State) : State :=
  setRState .awaitSlotReply (issue 2 (queryRepBits session) 0 s)

/-- Emit an `ACK`: the handle is marked acknowledged, and the identifier reply is awaited (rules R137, R252). -/
def emitAck (rn : BitVec 16) (s : State) : State :=
  let s := setRState .slotSuccess s
  let s := { s with mem := s.mem.setHb rn, rdr := { s.rdr with lastHandle := rn } }
  setRState .ackSequence (issue 4 (ackBits rn) 0 s)

/-- Emit a `SELECT`; `ROUND_START` is held until its `TX_DONE` (rules R138, R244, R245). -/
def emitSelect (target action : BitVec 3) (memBank : BitVec 2) (pointer : BitVec 7) (length : BitVec 6)
    (mask : BitVec 32) (trunc : BitVec 1) (crc : BitVec 16) (s : State) : State :=
  issue 5 (selectBits target action memBank pointer length mask trunc crc) 0 (setRState .roundStart s)

/-- `START_QUERY()` with the configured fields (rules R242, R246). -/
def startQuery (s : State) : State :=
  emitQuery s.cfg.dr s.cfg.qSel s.cfg.session s.cfg.target s.cfg.rdrQ s.cfg.queryCrc s

/-- The Select of a round's beginning, with the configured fields (rules R242, R244). -/
def startSelect (s : State) : State :=
  emitSelect s.cfg.sTarget s.cfg.action s.cfg.memBank s.cfg.pointer s.cfg.length s.cfg.selMask s.cfg.trunc
    s.cfg.selectCrc s

/-! ### Rounds -/

/-- The state of a round about to begin: its slots, its counters and its handles cleared (rule R243). -/
def newRound (s : State) : State :=
  { s with
    rdr := { s.rdr with slotsRem := 1#17 <<< s.cfg.rdrQ.toNat, rstate := .roundStart }
    tally := { s.tally with rSuccess := 0, rCollision := 0, rEmpty := 0 }
    mem := s.mem.clearHb }

/-- `ROUND_BEGIN()` (rule R243). -/
def roundBegin (s : State) : State :=
  if s.rdr.stopReq || s.cfg.maxRounds.toNat ≤ s.rdr.roundNo.toNat then enterDone s
  else if s.cfg.selEn = 1 then startSelect (newRound s)
  else startQuery (newRound s)

/-- `ROUND_END()` (rule R260). -/
def roundEnd (s : State) : State :=
  raise .roundEnd
    { s with tally := { s.tally with
        lSuccess := s.tally.rSuccess, lCollision := s.tally.rCollision, lEmpty := s.tally.rEmpty,
        tRounds := s.tally.tRounds + 1 } }

/-- `R_<o> <- R_<o> + 1; T_<o> <- T_<o> + 1`, wrapping (rule R259). -/
def countOutcome (o : SlotOutcome) (t : Tally) : Tally :=
  match o with
  | .empty => { t with rEmpty := t.rEmpty + 1, tEmpty := t.tEmpty + 1 }
  | .success => { t with rSuccess := t.rSuccess + 1, tSuccess := t.tSuccess + 1 }
  | .collision => { t with rCollision := t.rCollision + 1, tCollision := t.tCollision + 1 }

/-- The transient state of a slot that ends (rules R22, R259). -/
def SlotOutcome.rstate : SlotOutcome → RState
  | .empty => .slotEmpty
  | .success => .slotSuccess
  | .collision => .slotCollision

/-- `END_SLOT(o)` (rule R259). -/
def endSlot (o : SlotOutcome) (s : State) : State :=
  let s := { s with
    rdr := { s.rdr with rstate := o.rstate, slotsRem := s.rdr.slotsRem - 1 }
    tally := countOutcome o s.tally }
  if s.rdr.slotsRem = 0 then roundBegin (roundEnd s)
  else if s.rdr.stopReq then enterDone s
  else emitQueryRep s.cfg.session s

/-! ### Classification -/

/-- Some identifier-store entry `k < T_DISTINCT` holds the EPC (rule R258). -/
def epcKnown (s : State) (epc : BitVec 96) : Bool :=
  (List.range s.tally.tDistinct.toNat).any fun k => (s.mem.readId k).epc == epc

/-- `RECORD_ID(pc, epc)` (rule R258). -/
def recordId (pc : BitVec 16) (epc : BitVec 96) (s : State) : State :=
  if epcKnown s epc then s
  else if s.tally.tDistinct.toNat < s.par.idCap then
    raise .idNew { s with
      mem := s.mem.writeId s.tally.tDistinct.toNat { epc, pc }
      tally := { s.tally with tDistinct := s.tally.tDistinct + 1 } }
  else raise .idOvf s

/-- `ACK_OR_REFUSE(rn)` (rule R252). -/
def ackOrRefuse (rn : BitVec 16) (s : State) : State :=
  if s.mem.readHb rn then endSlot .collision { s with diag := { s.diag with hrepCnt := s.diag.hrepCnt + 1 } }
  else emitAck rn s

/-- `CLASSIFY(R)` (rules R251, R254). It is called only in the two listening states, and an identifier reply cannot
occur in `AWAIT_SLOT_REPLY` (rules R200, R250); elsewhere it changes nothing (log entry 13). -/
def classify (r : Decoded) (s : State) : State :=
  match s.rdr.rstate with
  | .awaitSlotReply =>
    match r.kind with
    | .noReply => endSlot .empty s
    | .collisionOrNoise => endSlot .collision s
    | .randomNumber => ackOrRefuse r.rn s
    | .identifierReply => s
  | .ackSequence =>
    if r.kind = .identifierReply ∧ r.valid then endSlot .success (recordId r.pc r.epc s)
    else endSlot .collision s
  | .done | .roundStart | .slotEmpty | .slotSuccess | .slotCollision => s

/-- `SLOT_TICK()` (rule R255): the timeout leaves `DEC_LAST` alone. The rule gives `NoReply(timeout)` no reason code; the
model puts the code 0 into that record, which no rule reads (DESIGN CHOICE, log entry 25). -/
def slotTick (s : State) : State :=
  let s := { s with rdr := { s.rdr with tWait := BitVec.ofNat 32 (sat32 (s.rdr.tWait.toNat + 1)) } }
  if s.cfg.tSlot.toNat ≤ s.rdr.tWait.toNat ∧ s.gate.gstate = .idle then
    classify (.noReply .decoded) { s with diag := { s.diag with timeoutCnt := s.diag.timeoutCnt + 1 } }
  else s

/-! ### Debug records -/

/-- The bytes of a value, least significant first (rule R88). -/
def bytesLE : Nat → Nat → List (BitVec 8)
  | 0, _ => []
  | n + 1, v => BitVec.ofNat 8 v :: bytesLE n (v / 256)

/-- The 0-based slot number within the round, `2^RDR_Q - SLOTS_REM` (rule R24). -/
def slotIndex (s : State) : BitVec 32 := (1#32 <<< s.cfg.rdrQ.toNat) - s.rdr.slotsRem.setWidth 32

/-- The bytes of the debug record of a frame (rule R262). -/
def debugRecord (f : Frame) (s : State) : List (BitVec 8) :=
  bytesLE 4 s.rdr.roundNo.toNat ++ bytesLE 4 (slotIndex s).toNat ++
    [if s.rdr.rstate = .ackSequence then 1 else 0, 0, 0, 0] ++
    bytesLE 4 f.start.toNat ++ bytesLE 4 f.len.toNat ++
    (frameSamples s.mem f).flatMap fun x => bytesLE 2 x.i.toNat ++ bytesLE 2 x.q.toNat

/-- `ON_FRAME(F, R)` (rule R250). -/
def onFrame (f : Frame) (r : Decoded) (s : State) : State :=
  match f.kind with
  | .r2tGap => { s with diag := { s.diag with gapCnt := s.diag.gapCnt + 1 } }
  | .tagReply => classify r (if s.cfg.dbgCtrl = 1 then emit (.dbg (debugRecord f s)) s else s)

/-! ### Transmit completion -/

/-- `TX_DONE` (rule R253). -/
def txDone (s : State) : State :=
  if !s.rdr.txBusy then raise .spurTxd s
  else
    let s := { s with rdr := { s.rdr with txBusy := false } }
    if s.rdr.rstate = .roundStart then (if s.rdr.stopReq then enterDone s else startQuery s)
    else gateReset { s with rdr := { s.rdr with tWait := 0 } }

end Sys2Proof.Machine
end

