-- ==== Sys2Proof/Machine/Commands.lean ====
section
/-! DEFINITION. The meanings of the Command rows of the opcode table. A Command is an output (`30_encoding.md` rule R130): its
instruction is the Reader's emission of it, at the point inside a step where the rules of `42_reader.md` emit exactly that
Command, which is always in a transient situation (rules R22, R245). At a step boundary the Reader stands at no such point,
and there is no input by which a Command could change the block (rule R110): a Command presented then does nothing. The
Reader's own procedures emit their Commands through the same operations (log entry 6). -/

namespace Sys2Proof.Machine

/-- The Reader stands where it opens a round: in `ROUND_START` with no Command outstanding and no stop requested
(rules R240, R243, R253). -/
def opensRound (s : State) : Bool := s.rdr.rstate == .roundStart && !s.rdr.txBusy && !s.rdr.stopReq

/-- The Reader stands where it opens the next slot: in the transient state of a slot that has ended, with slots left, no
Command outstanding and no stop requested (rule R259). -/
def opensNextSlot (s : State) : Bool :=
  (s.rdr.rstate == .slotEmpty || s.rdr.rstate == .slotSuccess || s.rdr.rstate == .slotCollision) && !s.rdr.txBusy &&
    !s.rdr.stopReq && s.rdr.slotsRem != 0

/-- The Reader stands where it acknowledges `rn`: in the transient `SLOT_SUCCESS`, with no Command outstanding and a handle
not yet acknowledged this round (rule R252). -/
def acknowledges (rn : BitVec 16) (s : State) : Bool :=
  s.rdr.rstate == .slotSuccess && !s.rdr.txBusy && !s.mem.readHb rn

/-- The fields are those of the Query the configuration asks for (rules R134, R242). -/
def Cfg.asksQuery (c : Cfg) (dr : BitVec 1) (sel session : BitVec 2) (target : BitVec 1) (q : BitVec 4)
    (crc : BitVec 5) : Bool :=
  dr == c.dr && sel == c.qSel && session == c.session && target == c.target && q == c.rdrQ && crc == c.queryCrc

/-- The fields are those of the Select the configuration asks for; of the mask only the bits sent count (rules R50, R138,
R242). -/
def Cfg.asksSelect (c : Cfg) (target action : BitVec 3) (memBank : BitVec 2) (pointer : BitVec 7) (length : BitVec 6)
    (mask : BitVec 32) (trunc : BitVec 1) (crc : BitVec 16) : Bool :=
  c.selEn == 1 && target == c.sTarget && action == c.action && memBank == c.memBank && pointer == c.pointer &&
    length == c.length && mask.toNat % 2 ^ length.toNat == c.selMask.toNat % 2 ^ length.toNat && trunc == c.trunc &&
    crc == c.selectCrc

/-- `QUERY` (rules R134, R246). -/
def execQuery (dr : BitVec 1) (sel session : BitVec 2) (target : BitVec 1) (q : BitVec 4) (crc : BitVec 5)
    (s : State) : Host.Outcome State Fault Refusal :=
  .next (if opensRound s && s.cfg.asksQuery dr sel session target q crc then emitQuery dr sel session target q crc s
    else s)

/-- `QUERYREP` (rules R135, R259). -/
def execQueryRep (session : BitVec 2) (s : State) : Host.Outcome State Fault Refusal :=
  .next (if opensNextSlot s && session == s.cfg.session then emitQueryRep session s else s)

/-- `QUERYADJUST`: encoded, but the block never emits it, so nothing happens (rules R136, R261; log entry 7). -/
def execQueryAdjust (_session : BitVec 2) (_upDn : BitVec 3) (s : State) : Host.Outcome State Fault Refusal := .next s

/-- `ACK` (rules R137, R252). -/
def execAck (rn : BitVec 16) (s : State) : Host.Outcome State Fault Refusal :=
  .next (if acknowledges rn s then emitAck rn s else s)

/-- `SELECT` (rules R138, R244). -/
def execSelect (target action : BitVec 3) (memBank : BitVec 2) (pointer : BitVec 7) (length : BitVec 6)
    (mask : BitVec 32) (trunc : BitVec 1) (crc : BitVec 16) (s : State) : Host.Outcome State Fault Refusal :=
  .next (if opensRound s && s.cfg.asksSelect target action memBank pointer length mask trunc crc then
      emitSelect target action memBank pointer length mask trunc crc s
    else s)

end Sys2Proof.Machine
end

