-- ==== Sys2Proof/Machine/GateStep.lean ====
section
/-! DEFINITION. The Gate and the `SAMPLE` step (`40_gate.md` rules R170 to R180). -/

namespace Sys2Proof.Machine

/-- `thr_on` or `thr_off` for a multiplier in sixteenths: `sat32(floor(NF*K/16) + TOFS)` (rule R172). -/
def threshold (nf : BitVec 32) (k : BitVec 8) (tofs : BitVec 32) : Nat := sat32 (nf.toNat * k.toNat / 16 + tofs.toNat)

/-- `thr_on` (rule R172). -/
def thrOn (s : State) : Nat := threshold s.gate.nf s.cfg.gateKon s.cfg.gateTofs

/-- `thr_off` (rule R172). -/
def thrOff (s : State) : Nat := threshold s.gate.nf s.cfg.gateKoff s.cfg.gateTofs

/-- `NF + floor((en - NF) / 2^NF_SHIFT)` (rule R173). -/
def nfUpdate (nf : BitVec 32) (shift : BitVec 5) (en : Nat) : BitVec 32 :=
  BitVec.ofInt 32 ((nf.toNat : Int) + ((en : Int) - (nf.toNat : Int)) / (2 ^ shift.toNat : Nat))

/-- `DISCONT_CHECK(idx)` (rule R179). -/
def discontCheck (idx : BitVec 32) (s : State) : State :=
  if s.haveLast ∧ idx ≠ s.lastIdx + 1 then
    let s := raise .discont { s with diag := { s.diag with discontCnt := s.diag.discontCnt + 1 } }
    if s.gate.gstate = .inFrame then gateReset s else s
  else s

/-- `CLOSE(len, forced)` (rules R175 to R177): the closed frame, or none for a blip. -/
def closeFrame (len : BitVec 16) (forced : Bool) (s : State) : State × Option Frame :=
  let s := { s with gate := { s.gate with gstate := .done } }
  let s := if forced then { s with diag := { s.diag with forcedCnt := s.diag.forcedCnt + 1 } } else s
  if len.toNat < s.cfg.minLen.toNat then
    (gateReset { s with diag := { s.diag with blipCnt := s.diag.blipCnt + 1 } }, none)
  else (gateReset s, some { kind := s.gate.gKind, start := s.gate.gStart, len, forced })

/-- The kind of a frame that opens now (rule R178). -/
def openingKind (s : State) : FrameKind := if listening s then .tagReply else .r2tGap

/-- The state in which a frame has just opened with its first sample (rule R173). -/
def openFrame (idx : BitVec 32) (x : Sample) (s : State) : State :=
  { s with
    mem := s.mem.writeFb 0 x
    gate := { s.gate with gLen := 1, gLastHi := 1, gBelow := 0, gKind := openingKind s, gStart := idx,
                          gstate := .inFrame } }

/-- The state in which the open frame has taken one more sample (rule R174). -/
def extendFrame (x : Sample) (en : Nat) (s : State) : State :=
  let len := s.gate.gLen + 1
  { s with
    mem := s.mem.writeFb s.gate.gLen.toNat x
    gate := if thrOff s ≤ en then { s.gate with gLen := len, gBelow := 0, gLastHi := len }
            else { s.gate with gLen := len, gBelow := s.gate.gBelow + 1 } }

/-- `GATE_STEP` (rules R172 to R176). `DONE` is never held at a step boundary (rule R23); there it does nothing
(log entry 13). -/
def gateStep (idx : BitVec 32) (x : Sample) (s : State) : State × Option Frame :=
  let en := energy x.i x.q
  match s.gate.gstate with
  | .idle =>
    if thrOn s < en then
      let s := openFrame idx x s
      if s.gate.gLen = s.cfg.maxLen then closeFrame s.gate.gLen true s else (s, none)
    else ({ s with gate := { s.gate with nf := nfUpdate s.gate.nf s.cfg.nfShift en } }, none)
  | .inFrame =>
    let s := extendFrame x en s
    if s.gate.gBelow = s.cfg.hold then closeFrame s.gate.gLastHi false s
    else if s.gate.gLen = s.cfg.maxLen then closeFrame s.gate.gLen true s
    else (s, none)
  | .done => (s, none)

/-- The Reader's part of a sample step, after the Gate (rule R170). -/
def afterGate (r : State × Option Frame) : State :=
  match r with
  | (s, some f) =>
    let d := decode s f (expect s)
    onFrame f d (latchLast d s)
  | (s, none) => if listening s then slotTick s else s

/-- The state in which a running block has checked and noted the sample's index (rules R170, R179). -/
def noteIndex (idx : BitVec 32) (s : State) : State := { discontCheck idx s with lastIdx := idx, haveLast := true }

/-- Every frame-buffer entry that the next sample can touch exists: an open frame writes `FB[G_LEN]` and is read up to
`G_LASTHI` or `G_LEN + 1` (rules R83, R174). -/
def fbInRange (s : State) : Bool :=
  s.gate.gstate ≠ .inFrame || (s.gate.gLen.toNat < s.par.fbDepth && s.gate.gLastHi.toNat ≤ s.par.fbDepth)

/-- `SAMPLE(idx, I, Q)` (rules R170, R171); an access outside the frame buffer faults (log entry 10). -/
def sampleStep (idx : BitVec 32) (i q : BitVec 16) (s : State) : Host.Outcome State Fault Refusal :=
  if s.rdr.rstate = .done then .next s
  else
    let s := noteIndex idx s
    if fbInRange s then .next (afterGate (gateStep idx { i, q } s)) else .fault .frameBufferIndex

end Sys2Proof.Machine
end

