-- ==== Sys2Proof/Machine/HostOps.lean ====
section
/-! DEFINITION. The host operations (`43_host.md` rules R290 to R297): bus writes and reads, START with its validation,
STOP. -/

namespace Sys2Proof.Machine

/-- The 13 validation checks of rule R294, in order: the number of a check and whether it FAILS. -/
def validationChecks (p : Params) (c : Cfg) : List (Nat × Bool) :=
  [ (1, c.minLen.toNat = 0),
    (2, c.maxLen.toNat < c.minLen.toNat),
    (3, p.fbDepth < c.maxLen.toNat),
    (4, c.hold.toNat = 0),
    (5, c.gateKon.toNat < c.gateKoff.toNat),
    (6, c.decSph.toNat = 0),
    (7, c.maxLen.toNat < 268 * c.decSph.toNat),
    (8, 16 < c.preThr.toNat),
    (9, 16 < c.ambFrac.toNat),
    (10, c.ambRun.toNat = 0),
    (11, c.maxRounds.toNat = 0),
    (12, c.tSlot.toNat = 0),
    (13, c.selEn.toNat = 1 && 32 < c.length.toNat) ]

/-- The number of the first failing check of a list, or 0. -/
def firstFailing : List (Nat × Bool) → Nat
  | [] => 0
  | (n, fails) :: rest => if fails then n else firstFailing rest

/-- `VALIDATE()` (rule R294). -/
def validate (p : Params) (c : Cfg) : Nat := firstFailing (validationChecks p c)

/-- `START_INIT()` up to its `ROUND_BEGIN` (rule R295). -/
def startClear (s : State) : State :=
  let s := gateReset { s with
    cfgErr := false
    cfgErrCode := 0
    rdr := { s.rdr with stopReq := false, roundNo := 0, slotsRem := 0, tWait := 0, txBusy := false,
                        lastHandle := 0, lastCmd := 0 }
    tally := { tSuccess := 0, tCollision := 0, tEmpty := 0, tRounds := 0, tDistinct := 0, rSuccess := 0,
               rCollision := 0, rEmpty := 0, lSuccess := 0, lCollision := 0, lEmpty := 0 }
    mem := s.mem.clearIds
    diag := { discontCnt := 0, blipCnt := 0, gapCnt := 0, forcedCnt := 0, hrepCnt := 0, timeoutCnt := 0 }
    dec := { last := 0, lastT := 0, lastRn := 0 }
    haveLast := false
    lastIdx := 0 }
  { s with gate := { s.gate with nf := s.cfg.nfInit } }

/-- `START_INIT()` (rule R295). -/
def startInit (s : State) : State := roundBegin (startClear s)

/-- `START()` (rule R293). -/
def start (s : State) : State :=
  if s.rdr.rstate ≠ .done then raise .wrIgn s
  else
    let n := validate s.par s.cfg
    if n ≠ 0 then raise .cfgErr { s with cfgErr := true, cfgErrCode := BitVec.ofNat 4 n }
    else startInit s

/-- `STOP()` (rule R296). -/
def stop (s : State) : State :=
  if s.rdr.rstate = .done then s else { s with rdr := { s.rdr with stopReq := true } }

/-- A write of `CTRL`: STOP if bit 1 is set, else START if bit 0 is (rules R42, R290, R297). -/
def writeCtrl (data : BitVec 32) (s : State) : State :=
  if data.getLsbD 1 then stop s else if data.getLsbD 0 then start s else s

/-- A write at an offset of the configuration range: stored while stopped, ignored with `WR_IGN` while running, without
effect where the range holds no register; misaligned, `BUS_ERR` alone (rules R44, R82, R290). -/
def writeConfig (addr : BitVec 12) (data : BitVec 32) (s : State) : State :=
  if misaligned addr then raise .busErr s
  else match storeConfig s.cfg addr.toNat data with
    | none => s
    | some c => if s.rdr.rstate = .done then { s with cfg := c } else raise .wrIgn s

/-- `BUS_WRITE(addr, data)` (rule R290). -/
def busWrite (addr : BitVec 12) (data : BitVec 32) (s : State) : State :=
  if misaligned addr then raise .busErr s
  else if addr = 0x008 then writeCtrl data s
  else if addr = 0x010 then clearPending data s
  else if addr = 0x014 then writeIrqEn data s
  else if 0x020 ≤ addr.toNat ∧ addr.toNat ≤ 0x07C then writeConfig addr data s
  else s

/-- `BUS_READ(addr) -> rdata` (rule R291). -/
def busRead (addr : BitVec 12) (s : State) : State :=
  if misaligned addr then emit (.rdata 0) (raise .busErr s) else emit (.rdata (readRegister s addr)) s

/-- A cycle with both bus strobes: the write, then `BUS_ERR`, and the read returns 0 (rule R113). -/
def busWriteRead (addr : BitVec 12) (data : BitVec 32) (s : State) : State :=
  emit (.rdata 0) (raise .busErr (busWrite addr data s))

/-- `RESET` (rules R58, R360): every element of the block takes its reset value; the synthesis parameters stay (rule R6), and
so do the port activity still to come and the outputs already emitted, which belong to the environment (log entries 1 and
11). -/
def reset (s : State) : State := { State.resetOf s.par with inputs := s.inputs, outs := s.outs }

end Sys2Proof.Machine
end

