-- ==== Sys2Proof/Machine/Events.lean ====
section
/-! DEFINITION. The meanings of the input-event rows of the opcode table (`30_encoding.md` rules R110 to R115). -/

namespace Sys2Proof.Machine

/-- `RESET` (rule R360). -/
def execReset (s : State) : Host.Outcome State Fault Refusal := .next (reset s)

/-- `BUS_WRITE` (rule R290). -/
def execBusWrite (addr : BitVec 12) (data : BitVec 32) (s : State) : Host.Outcome State Fault Refusal :=
  .next (busWrite addr data s)

/-- `BUS_READ` (rule R291). -/
def execBusRead (addr : BitVec 12) (s : State) : Host.Outcome State Fault Refusal := .next (busRead addr s)

/-- `BUS_WRITE_READ` (rule R113). -/
def execBusWriteRead (addr : BitVec 12) (data : BitVec 32) (s : State) : Host.Outcome State Fault Refusal :=
  .next (busWriteRead addr data s)

/-- `TX_DONE` (rule R253). -/
def execTxDone (s : State) : Host.Outcome State Fault Refusal := .next (txDone s)

/-- `SAMPLE` (rule R170). -/
def execSample (idx : BitVec 32) (i q : BitVec 16) (s : State) : Host.Outcome State Fault Refusal :=
  sampleStep idx i q s

end Sys2Proof.Machine
end

