-- ==== Sys2Proof/Machine/HostWrites.lean ====
section
/-! DEFINITION. The meanings of the host-write rows of the opcode table: the `BUS_WRITE`s to `CTRL`, `IRQ_PEND`, `IRQ_EN`
and the configuration range (`43_host.md` rule R290). -/

namespace Sys2Proof.Machine

/-- `CTRL.START` (rule R293); `data[31:2]` is ignored (rule R42). -/
def execCtrlStart (_rsv : BitVec 30) (s : State) : Host.Outcome State Fault Refusal := .next (start s)

/-- `CTRL.STOP` (rule R296). -/
def execCtrlStop (_rsv : BitVec 30) (s : State) : Host.Outcome State Fault Refusal := .next (stop s)

/-- `CTRL.START_STOP` acts as STOP alone (rule R297). -/
def execCtrlStartStop (_rsv : BitVec 30) (s : State) : Host.Outcome State Fault Refusal := .next (stop s)

/-- `CTRL.NOP`: writing 0 to both strobes does nothing (rule R42). -/
def execCtrlNop (_rsv : BitVec 30) (s : State) : Host.Outcome State Fault Refusal := .next s

/-- `IRQ_PEND.W1C` (rule R292). -/
def execIrqPendW1C (data : BitVec 32) (s : State) : Host.Outcome State Fault Refusal := .next (clearPending data s)

/-- `IRQ_EN.WRITE` (rule R54). -/
def execIrqEnWrite (data : BitVec 32) (s : State) : Host.Outcome State Fault Refusal := .next (writeIrqEn data s)

/-- `CONFIG.WRITE_0x020_0x03C` (rules R44, R45, R82). -/
def execConfigWriteLo (off : BitVec 5) (data : BitVec 32) (s : State) : Host.Outcome State Fault Refusal :=
  .next (writeConfig (0b0000001#7 ++ off) data s)

/-- `CONFIG.WRITE_0x040_0x07C` (rules R44, R46 to R52, R81, R82). -/
def execConfigWriteHi (off : BitVec 6) (data : BitVec 32) (s : State) : Host.Outcome State Fault Refusal :=
  .next (writeConfig (0b000001#6 ++ off) data s)

end Sys2Proof.Machine
end

