-- ==== Sys2Proof/Machine/Replies.lean ====
section
/-! DEFINITION. The meanings of the tag-reply rows of the opcode table. A reply is no event of its own (`30_encoding.md` rule
R110): it stands for the `SAMPLE` events of its FM0 waveform, as the `FM0` pseudo-event expands it (rules R150 to R153, R166).
Its instruction puts those events in front of the pending port activity and changes no element of the block; each of them
is then one step (`00_scope.md` rule R10; log entry 8). -/

namespace Sys2Proof.Machine

/-- The `I` values of the samples of a bit sequence: each half-symbol level is `DEC_SPH` samples of `hi` or `lo`
(rule R166). -/
def replySamples (sph : Nat) (bits : List Bool) (hi lo : BitVec 16) : List (BitVec 16) :=
  (fm0Halves bits).flatMap fun level => List.replicate sph (if level then hi else lo)

/-- The `SAMPLE` events of the given `I` values at consecutive indices from `idx` on, with `Q = 0` (rules R111, R166). -/
def sampleCycles : List (BitVec 16) → BitVec 32 → List Item
  | [], _ => []
  | i :: rest, idx => .cycle { cycleOf 0b00001 with sIdx := idx, sI := i } :: sampleCycles rest (idx + 1)

/-- The index that continues the last one used; the first after START is 0 (rule R166). -/
def nextIndex (s : State) : BitVec 32 := if s.haveLast then s.lastIdx + 1 else 0

/-- A reply arrives: its samples are pending in its place. A stopped block ignores every sample (rule R171), so there the
reply is dropped whole. -/
def presentReply (bits : List Bool) (hi lo : BitVec 16) (s : State) : State :=
  if s.rdr.rstate = .done then s
  else { s with inputs := sampleCycles (replySamples s.cfg.decSph.toNat bits hi lo) (nextIndex s) ++ s.inputs }

/-- `REPLY_RN16` (rule R152). -/
def execReplyRn16 (rn : BitVec 16) (hi lo : BitVec 16) (s : State) : Host.Outcome State Fault Refusal :=
  .next (presentReply (bitsOf 16 rn.toNat) hi lo s)

/-- `REPLY_ID` (rule R153). -/
def execReplyId (pc : BitVec 16) (epc : BitVec 96) (crc : BitVec 16) (hi lo : BitVec 16) (s : State) :
    Host.Outcome State Fault Refusal :=
  .next (presentReply (replyIdBits pc epc crc) hi lo s)

end Sys2Proof.Machine
end

