-- ==== Sys2Proof/Machine/Dispatch.lean ====
section
/-! DEFINITION. `exec`: one arm per instruction, one direct call of its meaning. -/

namespace Sys2Proof.Machine

def exec (i : Instr) (s : State) : Host.Outcome State Fault Refusal :=
  match i with
  | .reset => Sys2Proof.Machine.execReset s
  | .busWrite addr data => Sys2Proof.Machine.execBusWrite addr data s
  | .busRead addr => Sys2Proof.Machine.execBusRead addr s
  | .busWriteRead addr data => Sys2Proof.Machine.execBusWriteRead addr data s
  | .txDone => Sys2Proof.Machine.execTxDone s
  | .sample idx i_ q => Sys2Proof.Machine.execSample idx i_ q s
  | .ctrlStart rsv => Sys2Proof.Machine.execCtrlStart rsv s
  | .ctrlStop rsv => Sys2Proof.Machine.execCtrlStop rsv s
  | .ctrlStartStop rsv => Sys2Proof.Machine.execCtrlStartStop rsv s
  | .ctrlNop rsv => Sys2Proof.Machine.execCtrlNop rsv s
  | .irqPendW1C data => Sys2Proof.Machine.execIrqPendW1C data s
  | .irqEnWrite data => Sys2Proof.Machine.execIrqEnWrite data s
  | .configWriteLo off data => Sys2Proof.Machine.execConfigWriteLo off data s
  | .configWriteHi off data => Sys2Proof.Machine.execConfigWriteHi off data s
  | .query dr sel session target q crc => Sys2Proof.Machine.execQuery dr sel session target q crc s
  | .queryRep session => Sys2Proof.Machine.execQueryRep session s
  | .queryAdjust session upDn => Sys2Proof.Machine.execQueryAdjust session upDn s
  | .ack rn => Sys2Proof.Machine.execAck rn s
  | .select target action memBank pointer length mask trunc crc => Sys2Proof.Machine.execSelect target action memBank pointer length mask trunc crc s
  | .replyRn16 rn hi lo => Sys2Proof.Machine.execReplyRn16 rn hi lo s
  | .replyId pc epc crc hi lo => Sys2Proof.Machine.execReplyId pc epc crc hi lo s

end Sys2Proof.Machine
end

