-- ==== Sys2Proof/Machine/Step.lean ====
section
/-! DEFINITION. One step: take the first event of the pending port activity, decode it and run it (`00_scope.md` rule R10,
`30_encoding.md` rules R110 to R115). -/

namespace Sys2Proof.Machine

/-- One step of the block. With nothing pending, or on a cycle with no strobe, no event happens and the block keeps its
state (log entry 2); a cycle with several strobes is one step per event, its rest staying first in line (rule R115). A
reply is replaced by its samples, each an event of its own (log entry 8), and a Command is no input (log entry 6): neither
changes an element of the block. -/
def step (s : State) : Host.Outcome State Fault Refusal :=
  match s.inputs with
  | [] => .next s
  | item :: rest =>
    match decodeItem item with
    | .ok (i, left) => exec i { s with inputs := left.toList ++ rest }
    | .error .idleCycle => .next { s with inputs := rest }
    | .error e => .refused (.undecodable e)

/-- The state whose next pending port activity is the given word of the opcode table (log entries 1 and 5). -/
def State.withFetchWord (s : State) (nbits w : Nat) : State := { s with inputs := tableItem nbits w :: s.inputs }

end Sys2Proof.Machine
end

