-- ==== Sys2Proof/Safety.lean ====
section
/-! DEFINITION. What a good state of the block is: the invariants of `10_state.md` rule R33 and the facts about a
running block that the rules rest on, in the terms the statements use. -/

namespace Sys2Proof.Machine

/-- The invariants of a step boundary: legal states (rules R22, R23), the six of rule R33, that a gap frame is never
open while listening (rule R178), and that a running block's configuration passed validation (rule R44).
The synthesis parameters are in their ranges (rule R6). -/
structure Inv (s : State) : Prop where
  /-- R6 -/
  parameters : 1 ≤ s.par.fbDepth ∧ s.par.fbDepth ≤ 65535 ∧ 1 ≤ s.par.idCap ∧ s.par.idCap ≤ 64
  legalReader : s.rdr.rstate = .done ∨ s.rdr.rstate = .roundStart ∨ s.rdr.rstate = .awaitSlotReply ∨
    s.rdr.rstate = .ackSequence
  legalGate : s.gate.gstate = .idle ∨ s.gate.gstate = .inFrame
  /-- R33(a) -/
  doneQuiet : s.rdr.rstate = .done → s.rdr.txBusy = false ∧ s.rdr.stopReq = false ∧ s.gate.gstate = .idle
  /-- R33(b) -/
  roundStartBusy : s.rdr.rstate = .roundStart → s.rdr.txBusy = true
  /-- R33(c) -/
  frameBounds : s.gate.gstate = .inFrame →
    1 ≤ s.gate.gLen.toNat ∧ s.gate.gLen.toNat < s.cfg.maxLen.toNat ∧ s.gate.gBelow.toNat < s.cfg.hold.toNat ∧
      s.gate.gLastHi.toNat ≤ s.gate.gLen.toNat
  /-- R33(e) -/
  replyListening : s.gate.gstate = .inFrame → s.gate.gKind = .tagReply → listening s = true
  /-- R178 -/
  gapNotListening : s.gate.gstate = .inFrame → s.gate.gKind = .r2tGap → listening s = false
  /-- R33(f), with the round's slot count as the upper bound -/
  slotsLeft : s.rdr.rstate ≠ .done → 1 ≤ s.rdr.slotsRem.toNat ∧ s.rdr.slotsRem.toNat ≤ 2 ^ s.cfg.rdrQ.toNat
  configured : s.rdr.rstate ≠ .done → validate s.par s.cfg = 0

/-- A Command row of the opcode table: an output, not an input (rules R110, R130). -/
def isCommand : Instr → Bool
  | .query _ _ _ _ _ _ => true
  | .queryRep _ => true
  | .queryAdjust _ _ => true
  | .ack _ => true
  | .select _ _ _ _ _ _ _ _ => true
  | .reset => false
  | .busWrite _ _ => false
  | .busRead _ => false
  | .busWriteRead _ _ => false
  | .txDone => false
  | .sample _ _ _ => false
  | .ctrlStart _ => false
  | .ctrlStop _ => false
  | .ctrlStartStop _ => false
  | .ctrlNop _ => false
  | .irqPendW1C _ => false
  | .irqEnWrite _ => false
  | .configWriteLo _ _ => false
  | .configWriteHi _ _ => false
  | .replyRn16 _ _ _ => false
  | .replyId _ _ _ _ _ => false

/-- `QRY_CFG.M` and `QRY_CFG.TREXT` hold their hardwired zeros (rule R48). -/
def qryHardwired (s : State) : Bool := s.cfg.qryCfg &&& 0x00E == 0

/-- The undefined bits of `DEC_LAST` are 0 (rule R31). -/
def decReservedZero (s : State) : Bool := s.dec.last &&& 0xFFFFFF88 == 0

/-- `LAST_CMD` holds no reserved kind and no `QUERYADJUST` (rules R130, R161). -/
def lastCmdLegal (s : State) : Bool :=
  s.rdr.lastCmd == 0 || s.rdr.lastCmd == 1 || s.rdr.lastCmd == 2 || s.rdr.lastCmd == 4 || s.rdr.lastCmd == 5

/-- `T_DISTINCT` does not exceed `ID_CAP` (rule R26). -/
def distinctBounded (s : State) : Bool := s.tally.tDistinct.toNat ≤ s.par.idCap

/-- The Commands among outputs, in order. -/
def commandsOf (outs : List Output) : List Command :=
  outs.filterMap fun o => match o with
    | .cmd c => some c
    | .dbg _ | .rdata _ => none

/-! ### The spec's tables and words, written for the statements -/

/-- The events of a clock cycle in the order they are taken (rules R113 to R115). -/
def eventsOf (c : Cycle) : List Instr :=
  if c.ctl.getLsbD 4 then [.reset]
  else
    (match c.ctl.getLsbD 3, c.ctl.getLsbD 2 with
      | true, true => [.busWriteRead c.addr c.wdata]
      | true, false => [decodeHostWrite c.addr c.wdata]
      | false, true => [.busRead c.addr]
      | false, false => []) ++
    (if c.ctl.getLsbD 1 then [.txDone] else []) ++
    (if c.ctl.getLsbD 0 then [.sample c.sIdx c.sI c.sQ] else [])

/-- The word of a `QUERY` (rule R134). -/
def queryWord (dr : BitVec 1) (sel session : BitVec 2) (target : BitVec 1) (q : BitVec 4) (crc : BitVec 5) :
    BitVec 128 :=
  (0b1000#4 ++ dr ++ 0b00#2 ++ 0#1 ++ sel ++ session ++ target ++ q ++ crc).setWidth 128

/-- The word of a `QUERYREP` (rule R135). -/
def queryRepWord (session : BitVec 2) : BitVec 128 := (0b00#2 ++ session).setWidth 128

/-- The word of an `ACK` (rule R137). -/
def ackWord (rn : BitVec 16) : BitVec 128 := (0b01#2 ++ rn).setWidth 128

/-- The word of a `SELECT` with `L = length` mask bits, field by field from the first transmitted (rule R138). -/
def selectWord (target action : BitVec 3) (memBank : BitVec 2) (pointer : BitVec 7) (length : BitVec 6)
    (mask : BitVec 32) (trunc : BitVec 1) (crc : BitVec 16) : BitVec 128 :=
  let head := (0b1010#4 ++ target ++ action ++ memBank ++ 0#1 ++ pointer ++ 0b00#2 ++ length).toNat
  let withMask := head * 2 ^ length.toNat + mask.toNat % 2 ^ length.toNat
  BitVec.ofNat 128 ((withMask * 2 + trunc.toNat) * 2 ^ 16 + crc.toNat)

/-- `query_word()` of rule R242: the fields of `QRY_CFG` and `RDR_Q`, with the CRC-5 of the 17 bits before it
(rules R48, R134). -/
def configuredQueryWord (c : Cfg) : BitVec 128 :=
  let dr := c.qryCfg.extractLsb' 0 1
  let sel := c.qryCfg.extractLsb' 4 2
  let session := c.qryCfg.extractLsb' 6 2
  let target := c.qryCfg.extractLsb' 8 1
  queryWord dr sel session target c.rdrQ
    (crc5 (bitsOf 17 ((queryWord dr sel session target c.rdrQ 0).toNat / 2 ^ 5)))

/-- `select_word()` of rule R242: the fields of `SEL_CFG` and `SEL_MASK`, with the CRC-16 of the `29 + L` bits before it
(rules R49, R50, R138). -/
def configuredSelectWord (c : Cfg) : BitVec 128 :=
  let word := selectWord (c.selCfg.extractLsb' 1 3) (c.selCfg.extractLsb' 4 3) (c.selCfg.extractLsb' 7 2)
    (c.selCfg.extractLsb' 9 7) (c.selCfg.extractLsb' 16 6) c.selMask (c.selCfg.extractLsb' 22 1)
  word (crc16 (bitsOf (29 + (c.selCfg.extractLsb' 16 6).toNat) ((word 0).toNat / 2 ^ 16)))

/-- The defined bits of the configuration register at an offset; 0 where the offset holds none (rules R34, R45 to
R52, with `QRY_CFG.M` and `QRY_CFG.TREXT` not writable). -/
def configMask (off : Nat) : BitVec 32 :=
  match off with
  | 0x020 | 0x024 | 0x04C => 0xFF
  | 0x028 | 0x030 | 0x068 | 0x074 | 0x078 => 0xFFFFFFFF
  | 0x02C | 0x044 | 0x048 => 0x1F
  | 0x034 | 0x038 | 0x03C | 0x064 => 0xFFFF
  | 0x040 => 0xFFF
  | 0x060 => 0xF
  | 0x06C => 0x1F1
  | 0x070 => 0x7FFFFF
  | 0x07C => 1
  | _ => 0

/-- The word-aligned offsets that the register table of rule R34 names, the `ID_TABLE` window among them. -/
def mappedOffset (a : Nat) : Bool :=
  a ≤ 0x018 || configMask a ≠ 0 || (0x100 ≤ a && a ≤ 0x168) || (0x400 ≤ a && a ≤ 0x7FF)

/-- Check `n` of the table of rule R294 fails. -/
def checkFails (p : Params) (c : Cfg) (n : Nat) : Prop :=
  match n with
  | 1 => c.minLen = 0
  | 2 => c.maxLen.toNat < c.minLen.toNat
  | 3 => p.fbDepth < c.maxLen.toNat
  | 4 => c.hold = 0
  | 5 => c.gateKon.toNat < c.gateKoff.toNat
  | 6 => c.decSph = 0
  | 7 => c.maxLen.toNat < 268 * c.decSph.toNat
  | 8 => 16 < c.preThr.toNat
  | 9 => 16 < c.ambFrac.toNat
  | 10 => c.ambRun = 0
  | 11 => c.maxRounds = 0
  | 12 => c.tSlot = 0
  | 13 => c.selEn = 1 ∧ 32 < c.length.toNat
  | _ => False

/-- The sample energies of an ideal FM0 reply: each half-symbol is `p` samples, of energy `h` at level +1 and `l` at
level -1 (rule R213). -/
def idealEnergies (p h l : Nat) (bits : List Bool) : List Nat :=
  (fm0Halves bits).flatMap fun level => List.replicate p (if level then h else l)

end Sys2Proof.Machine
end

