-- ==== Sys2Proof/Certificates/Slice0/Obligations.lean ====
section
/-! DEFINITION. The statements for the provers. Each docstring names the rule of `spec/` that the statement formalises, or
says that it is derived and on what it rests. -/

open Sys2Proof Sys2Proof.Machine

/-! ### Steps, events and encodings -/

/-- A step runs the instruction decoded from the first pending port activity, with what is left of that activity put
back in front of the rest. Derived: rule R10 fixes one event per step; the pending list is the model's (log entry 1). -/
def Obligations.StepRunsDecodedInstruction : Prop :=
  ∀ (s : State) (item : Item) (rest : List Item) (i : Instr) (left : Option Item),
    s.inputs = item :: rest → decodeItem item = .ok (i, left) →
      step s = exec i { s with inputs := left.toList ++ rest }

/-- Without an event the block keeps its state, and a Command or reply that no rule encodes is refused by name.
Derived: rules R10, R110, R139; log entries 2 and 16. -/
def Obligations.StepWithoutInstruction : Prop :=
  (∀ s : State, s.inputs = [] → step s = .next s) ∧
  (∀ (s : State) (item : Item) (rest : List Item), s.inputs = item :: rest →
    decodeItem item = .error .idleCycle → step s = .next { s with inputs := rest }) ∧
  (∀ (s : State) (item : Item) (rest : List Item) (e : DecodeError), s.inputs = item :: rest →
    decodeItem item = .error e → e ≠ .idleCycle → step s = .refused (.undecodable e))

/-- The events of one clock cycle are separate steps, taken in the order of `eventsOf`. The first step runs the first event,
and what it leaves in front of the rest is a cycle whose events are the others. Derived: rules R113 (both bus strobes are one
access), R114, R115; that the rest of the cycle stays first in the pending list is log entry 3 (on the list of log entry 1),
and the row a host write decodes to is log entry 4. -/
def Obligations.CycleEventsInOrder : Prop :=
  ∀ (c : Cycle) (e : Instr) (es : List Instr), eventsOf c = e :: es →
    ∃ left : List Item,
      (∀ (s : State) (rest : List Item), s.inputs = .cycle c :: rest →
        step s = exec e { s with inputs := left ++ rest }) ∧
      ((es = [] ∧ left = []) ∨ ∃ c' : Cycle, left = [.cycle c'] ∧ eventsOf c' = es)

/-- Decoding the encoding of a well-formed instruction gives it back, with every operand at every value. -/
def Obligations.DecodeEncodeRoundTrip : Prop :=
  ∀ i : Instr, i.wellFormed = true → decodeItem (encode i) = .ok (i, none)

/-- A bit sequence that decodes to a Command is that Command's encoding, and the Command is well formed: no bit is
dropped and no reserved pattern is taken for a neighbour. -/
def Obligations.CommandDecodingIsExact : Prop :=
  ∀ (bits : List Bool) (i : Instr), decodeCommand bits = .ok i → encode i = .command bits ∧ i.wellFormed = true

/-- Words of the rules' own examples, in the opcode table's numbering, decode to their instructions. Derived: rules R134, R135,
R137, R138 (the Commands), R110, R112, R114 (the control vectors of `RESET` and `TX_DONE`) and R290 (the host writes); that a
bare word's format is chosen by its number of bits and its value is the model's choice (log entry 5). -/
def Obligations.DecodeKnownWords : Prop :=
  decodeTableWord 24 0x200042 = some (.query 0 0 0 0 2 0b00010) ∧
  decodeTableWord 8 0x0 = some (.queryRep 0) ∧
  decodeTableWord 24 0x11234 = some (.ack 0x1234) ∧
  decodeTableWord 56 0x150240114A7BCA = some (.select 4 0 1 32 8 0xA5 0 0x7BCA) ∧
  decodeTableWord 8 0x10 = some .reset ∧
  decodeTableWord 8 0x02 = some .txDone ∧
  decodeTableWord 48 0x800000001 = some (.ctrlStart 0) ∧
  decodeTableWord 48 0x6000000004 = some (.configWriteHi 0x20 4)

/-! ### Commands -/

/-- A `QUERY`'s instruction is the Reader's emission of it: where the Reader opens a round and the fields are those the
configuration asks for, with their CRC-5, it emits the word of rule R134, counts the round and awaits the first slot's
reply; anywhere else a presented `QUERY` does nothing. Derived: rules R110, R134, R241, R242, R246; log entry 6. -/
def Obligations.QueryEmission : Prop :=
  ∀ (dr : BitVec 1) (sel session : BitVec 2) (target : BitVec 1) (q : BitVec 4) (crc : BitVec 5) (s : State),
    let opens : Prop := s.rdr.rstate = .roundStart ∧ s.rdr.txBusy = false ∧ s.rdr.stopReq = false
    let asked : Prop := dr = s.cfg.qryCfg.extractLsb' 0 1 ∧ sel = s.cfg.qryCfg.extractLsb' 4 2 ∧
      session = s.cfg.qryCfg.extractLsb' 6 2 ∧ target = s.cfg.qryCfg.extractLsb' 8 1 ∧ q = s.cfg.rdrQ ∧
      crc = crc5 (bitsOf 17 ((queryWord dr sel session target q 0).toNat / 2 ^ 5))
    (opens → asked → exec (.query dr sel session target q crc) s = .next { s with
      rdr := { s.rdr with roundNo := s.rdr.roundNo + 1, txBusy := true, tWait := 0, lastCmd := 1,
                          rstate := .awaitSlotReply }
      outs := s.outs ++ [.cmd { kind := 1, word := queryWord dr sel session target q crc, len := 22, pre := 1,
                                timing := s.cfg.txTiming }] }) ∧
    (¬ (opens ∧ asked) → exec (.query dr sel session target q crc) s = .next s)

/-- A `QUERYREP`'s instruction is the Reader's emission of it: in the transient state of a slot that has ended, with slots
left, no stop requested and no Command outstanding, and with the configured session, it emits the word of rule R135 and
awaits the next slot's reply; anywhere else a presented `QUERYREP` does nothing. Derived: rules R110, R135, R241, R242, R259;
log entry 6. -/
def Obligations.QueryRepEmission : Prop :=
  ∀ (session : BitVec 2) (s : State),
    let opens : Prop :=
      (s.rdr.rstate = .slotEmpty ∨ s.rdr.rstate = .slotSuccess ∨ s.rdr.rstate = .slotCollision) ∧
        s.rdr.txBusy = false ∧ s.rdr.stopReq = false ∧ s.rdr.slotsRem ≠ 0
    let asked : Prop := session = s.cfg.qryCfg.extractLsb' 6 2
    (opens → asked → exec (.queryRep session) s = .next { s with
      rdr := { s.rdr with txBusy := true, tWait := 0, lastCmd := 2, rstate := .awaitSlotReply }
      outs := s.outs ++ [.cmd { kind := 2, word := queryRepWord session, len := 4, pre := 0,
                                timing := s.cfg.txTiming }] }) ∧
    (¬ (opens ∧ asked) → exec (.queryRep session) s = .next s)

/-- An `ACK`'s instruction is the Reader's emission of it: in the transient `SLOT_SUCCESS`, with no Command outstanding and a
handle not yet acknowledged this round, it emits the word of rule R137, records the handle, sets its bit of `HB` and no other
memory entry, and awaits the identifier; anywhere else a presented `ACK` does nothing. Derived: rules R110, R137, R241, R252;
log entry 6. -/
def Obligations.AckEmission : Prop :=
  ∀ (rn : BitVec 16) (s : State),
    let acknowledges : Prop := s.rdr.rstate = .slotSuccess ∧ s.rdr.txBusy = false ∧ s.mem.readHb rn = false
    (s.mem.wf = true → acknowledges → ∃ m : Memory,
      exec (.ack rn) s = .next { s with
        rdr := { s.rdr with txBusy := true, tWait := 0, lastCmd := 4, lastHandle := rn, rstate := .ackSequence }
        mem := m
        outs := s.outs ++ [.cmd { kind := 4, word := ackWord rn, len := 18, pre := 0, timing := s.cfg.txTiming }] } ∧
      (∀ r : BitVec 16, m.readHb r = if r = rn then true else s.mem.readHb r) ∧
      (∀ k : Nat, m.readFb k = s.mem.readFb k) ∧ (∀ k : Nat, m.readId k = s.mem.readId k)) ∧
    (¬ acknowledges → exec (.ack rn) s = .next s)

/-- A `SELECT`'s instruction is the Reader's emission of it: where the Reader opens a round with `SEL_EN` set and the fields
are those the configuration asks for, with their CRC-16, it emits the `45 + L` bits of rule R138 and holds `ROUND_START`;
anywhere else a presented `SELECT` does nothing. Of the mask only the `L` bits sent count. Derived: rules R49, R50, R110, R138,
R241, R242, R244; log entry 6. -/
def Obligations.SelectEmission : Prop :=
  ∀ (target action : BitVec 3) (memBank : BitVec 2) (pointer : BitVec 7) (length : BitVec 6) (mask : BitVec 32)
    (trunc : BitVec 1) (crc : BitVec 16) (s : State),
    let opens : Prop := s.rdr.rstate = .roundStart ∧ s.rdr.txBusy = false ∧ s.rdr.stopReq = false
    let asked : Prop := s.cfg.selCfg.extractLsb' 0 1 = 1 ∧ target = s.cfg.selCfg.extractLsb' 1 3 ∧
      action = s.cfg.selCfg.extractLsb' 4 3 ∧ memBank = s.cfg.selCfg.extractLsb' 7 2 ∧
      pointer = s.cfg.selCfg.extractLsb' 9 7 ∧ length = s.cfg.selCfg.extractLsb' 16 6 ∧
      mask.toNat % 2 ^ length.toNat = s.cfg.selMask.toNat % 2 ^ length.toNat ∧
      trunc = s.cfg.selCfg.extractLsb' 22 1 ∧
      crc = crc16 (bitsOf (29 + length.toNat)
        ((selectWord target action memBank pointer length mask trunc 0).toNat / 2 ^ 16))
    (opens → asked → exec (.select target action memBank pointer length mask trunc crc) s = .next { s with
      rdr := { s.rdr with txBusy := true, tWait := 0, lastCmd := 5 }
      outs := s.outs ++ [.cmd { kind := 5, word := selectWord target action memBank pointer length mask trunc crc,
                                len := BitVec.ofNat 8 (45 + length.toNat), pre := 0,
                                timing := s.cfg.txTiming }] }) ∧
    (¬ (opens ∧ asked) → exec (.select target action memBank pointer length mask trunc crc) s = .next s)

/-- What is no input event changes nothing (rules R10, R110): `QUERYADJUST`, which the block never emits; a `CTRL` write with
neither strobe; in a good state every presented Command; and a step over pending port activity that is no clock cycle
changes the pending list alone. Derived: rules R10, R42, R110, R136, R261; log entries 6, 7 and 8. -/
def Obligations.NoEffectInstructions : Prop :=
  (∀ (session : BitVec 2) (upDn : BitVec 3) (s : State), exec (.queryAdjust session upDn) s = .next s) ∧
  (∀ (rsv : BitVec 30) (s : State), exec (.ctrlNop rsv) s = .next s) ∧
  (∀ (i : Instr) (s : State), isCommand i = true → Inv s → exec i s = .next s) ∧
  (∀ (item : Item) (rest : List Item) (s t : State), Inv s → s.inputs = item :: rest →
    (∀ c : Cycle, item ≠ .cycle c) → step s = .next t → t = { s with inputs := t.inputs })

/-! ### The Reader's procedures -/

/-- Rule R246 with the words of rule R242: `START_QUERY` emits the Query of the configuration, its CRC-5 taken over the
17 bits before it. -/
def Obligations.StartQueryEmitsConfiguredQuery : Prop :=
  ∀ s : State,
    startQuery s = { s with
      rdr := { s.rdr with roundNo := s.rdr.roundNo + 1, txBusy := true, tWait := 0, lastCmd := 1,
                          rstate := .awaitSlotReply }
      outs := s.outs ++ [.cmd { kind := 1
                                word := queryWord (s.cfg.qryCfg.extractLsb' 0 1) (s.cfg.qryCfg.extractLsb' 4 2)
                                  (s.cfg.qryCfg.extractLsb' 6 2) (s.cfg.qryCfg.extractLsb' 8 1) s.cfg.rdrQ
                                  (crc5 (bitsOf 17 (0b1000#4 ++ s.cfg.qryCfg.extractLsb' 0 1 ++ 0b000#3 ++
                                    s.cfg.qryCfg.extractLsb' 4 2 ++ s.cfg.qryCfg.extractLsb' 6 2 ++
                                    s.cfg.qryCfg.extractLsb' 8 1 ++ s.cfg.rdrQ).toNat))
                                len := 22, pre := 1, timing := s.cfg.txTiming }] }

/-- Rule R243: `ROUND_BEGIN` stops at a stop request or at the round bound; otherwise it loads the slot counter, clears the
round's counters and handles, and emits the Select or the Query. -/
def Obligations.RoundBegin : Prop :=
  ∀ s : State,
    ((s.rdr.stopReq = true ∨ s.cfg.maxRounds.toNat ≤ s.rdr.roundNo.toNat) → roundBegin s = enterDone s) ∧
    (s.rdr.stopReq = false → s.rdr.roundNo.toNat < s.cfg.maxRounds.toNat →
      ∃ r : State,
        r = { s with
          rdr := { s.rdr with slotsRem := r.rdr.slotsRem, rstate := .roundStart }
          tally := { s.tally with rSuccess := 0, rCollision := 0, rEmpty := 0 }
          mem := r.mem } ∧
        r.rdr.slotsRem.toNat = 2 ^ s.cfg.rdrQ.toNat ∧
        (∀ rn : BitVec 16, r.mem.readHb rn = false) ∧
        (∀ k : Nat, r.mem.readFb k = s.mem.readFb k) ∧ (∀ k : Nat, r.mem.readId k = s.mem.readId k) ∧
        (s.cfg.selEn = 0 → roundBegin s = startQuery r) ∧
        (s.cfg.selEn = 1 → roundBegin s = { r with
          rdr := { r.rdr with txBusy := true, tWait := 0, lastCmd := 5 }
          outs := r.outs ++ [.cmd
            { kind := 5
              word := BitVec.ofNat 128 (msbFirst (selectBits s.cfg.sTarget s.cfg.action s.cfg.memBank s.cfg.pointer
                s.cfg.length s.cfg.selMask s.cfg.trunc s.cfg.selectCrc))
              len := BitVec.ofNat 8 (45 + s.cfg.length.toNat), pre := 0, timing := s.cfg.txTiming }] }))

/-- Rule R259, with rules R257 and R260: `END_SLOT(o)` counts the outcome once, takes one slot off the counter, and then
ends the round, enters `DONE` on a stop request, or opens the next slot with a `QUERYREP`. -/
def Obligations.EndSlot : Prop :=
  ∀ (o : SlotOutcome) (s : State), 1 ≤ s.rdr.slotsRem.toNat →
    let t : Tally := match o with
      | .empty => { s.tally with rEmpty := s.tally.rEmpty + 1, tEmpty := s.tally.tEmpty + 1 }
      | .success => { s.tally with rSuccess := s.tally.rSuccess + 1, tSuccess := s.tally.tSuccess + 1 }
      | .collision => { s.tally with rCollision := s.tally.rCollision + 1, tCollision := s.tally.tCollision + 1 }
    (s.rdr.slotsRem.toNat = 1 → endSlot o s = roundBegin { s with
      rdr := { s.rdr with slotsRem := 0, rstate := o.rstate }
      tally := { t with lSuccess := t.rSuccess, lCollision := t.rCollision, lEmpty := t.rEmpty,
                        tRounds := t.tRounds + 1 }
      irqPend := s.irqPend ||| 0x002 }) ∧
    (2 ≤ s.rdr.slotsRem.toNat → s.rdr.stopReq = true → endSlot o s = { s with
      rdr := { s.rdr with slotsRem := s.rdr.slotsRem - 1, rstate := .done, stopReq := false }
      gate := { s.gate with gstate := .idle, gLen := 0, gLastHi := 0, gBelow := 0, gKind := .r2tGap, gStart := 0 }
      tally := t
      irqPend := s.irqPend ||| 0x001 }) ∧
    (2 ≤ s.rdr.slotsRem.toNat → s.rdr.stopReq = false → endSlot o s = { s with
      rdr := { s.rdr with slotsRem := s.rdr.slotsRem - 1, rstate := .awaitSlotReply, txBusy := true, tWait := 0,
                          lastCmd := 2 }
      tally := t
      outs := s.outs ++ [.cmd { kind := 2, word := queryRepWord (s.cfg.qryCfg.extractLsb' 6 2), len := 4, pre := 0,
                                timing := s.cfg.txTiming }] })

/-- Rules R251, R252 and R254: what a Decoded Reply makes of the slot, in each of the two listening states. A new RN16 is
marked in `HB`, recorded and acknowledged with the word of rule R137. -/
def Obligations.Classification : Prop :=
  (∀ (d : Decoded) (s : State), s.rdr.rstate = .awaitSlotReply →
    (d.kind = .noReply → classify d s = endSlot .empty s) ∧
    (d.kind = .collisionOrNoise → classify d s = endSlot .collision s) ∧
    (d.kind = .randomNumber → s.mem.readHb d.rn = true →
      classify d s = endSlot .collision { s with diag := { s.diag with hrepCnt := s.diag.hrepCnt + 1 } }) ∧
    (d.kind = .randomNumber → s.mem.readHb d.rn = false → s.mem.wf = true → ∃ m : Memory,
      classify d s = { s with
        rdr := { s.rdr with txBusy := true, tWait := 0, lastCmd := 4, lastHandle := d.rn, rstate := .ackSequence }
        mem := m
        outs := s.outs ++ [.cmd { kind := 4, word := ackWord d.rn, len := 18, pre := 0, timing := s.cfg.txTiming }] } ∧
      (∀ r : BitVec 16, m.readHb r = if r = d.rn then true else s.mem.readHb r) ∧
      (∀ k : Nat, m.readFb k = s.mem.readFb k) ∧ (∀ k : Nat, m.readId k = s.mem.readId k))) ∧
  (∀ (d : Decoded) (s : State), s.rdr.rstate = .ackSequence →
    (d.kind = .identifierReply → d.valid = true → classify d s = endSlot .success (recordId d.pc d.epc s)) ∧
    (d.valid = false → classify d s = endSlot .collision s) ∧
    (d.kind ≠ .identifierReply → classify d s = endSlot .collision s))

/-- Rule R258: `RECORD_ID` stores an EPC that no valid entry holds, once, at entry `T_DISTINCT`, and flags an overflow of
the store. -/
def Obligations.RecordIdentifier : Prop :=
  ∀ (pc : BitVec 16) (epc : BitVec 96) (s : State), s.mem.wf = true →
    ((∃ k < s.tally.tDistinct.toNat, (s.mem.readId k).epc = epc) → recordId pc epc s = s) ∧
    ((∀ k < s.tally.tDistinct.toNat, (s.mem.readId k).epc ≠ epc) → s.par.idCap ≤ s.tally.tDistinct.toNat →
      recordId pc epc s = { s with irqPend := s.irqPend ||| 0x020 }) ∧
    ((∀ k < s.tally.tDistinct.toNat, (s.mem.readId k).epc ≠ epc) → s.tally.tDistinct.toNat < s.par.idCap →
      ∃ m : Memory,
        recordId pc epc s = { s with
          tally := { s.tally with tDistinct := s.tally.tDistinct + 1 }
          mem := m
          irqPend := s.irqPend ||| 0x004 } ∧
        (∀ k : Nat, m.readId k = if k = s.tally.tDistinct.toNat then { epc, pc } else s.mem.readId k) ∧
        (∀ k : Nat, m.readFb k = s.mem.readFb k) ∧ (∀ rn : BitVec 16, m.readHb rn = s.mem.readHb rn))

/-- Rules R250 and R262: a gap frame is counted and dropped; a tag-reply frame is classified, after one debug record with
the bytes of rule R262 when `DBG_EN` is set. -/
def Obligations.FrameHandling : Prop :=
  ∀ (f : Frame) (d : Decoded) (s : State),
    (f.kind = .r2tGap → onFrame f d s = { s with diag := { s.diag with gapCnt := s.diag.gapCnt + 1 } }) ∧
    (f.kind = .tagReply → s.cfg.dbgCtrl = 0 → onFrame f d s = classify d s) ∧
    (f.kind = .tagReply → s.cfg.dbgCtrl = 1 → s.rdr.slotsRem.toNat ≤ 2 ^ s.cfg.rdrQ.toNat →
      ∃ bytes : List (BitVec 8),
        onFrame f d s = classify d { s with outs := s.outs ++ [.dbg bytes] } ∧
        bytes.length = 20 + 4 * f.len.toNat ∧
        (∀ k < 4, bytes[k]? = some (BitVec.ofNat 8 (s.rdr.roundNo.toNat / 256 ^ k)) ∧
          bytes[4 + k]? = some (BitVec.ofNat 8 ((2 ^ s.cfg.rdrQ.toNat - s.rdr.slotsRem.toNat) / 256 ^ k)) ∧
          bytes[12 + k]? = some (BitVec.ofNat 8 (f.start.toNat / 256 ^ k)) ∧
          bytes[16 + k]? = some (BitVec.ofNat 8 (f.len.toNat / 256 ^ k))) ∧
        bytes[8]? = some (if s.rdr.rstate = .ackSequence then 1 else 0) ∧
        (∀ k < 3, bytes[9 + k]? = some 0) ∧
        (∀ k < f.len.toNat,
          bytes[20 + 4 * k]? = some ((s.mem.readFb k).i.extractLsb' 0 8) ∧
          bytes[20 + 4 * k + 1]? = some ((s.mem.readFb k).i.extractLsb' 8 8) ∧
          bytes[20 + 4 * k + 2]? = some ((s.mem.readFb k).q.extractLsb' 0 8) ∧
          bytes[20 + 4 * k + 3]? = some ((s.mem.readFb k).q.extractLsb' 8 8)))

/-- Rule R253: `TX_DONE` with no Command outstanding raises `SPUR_TXD`; after a Select it enters `DONE` or starts the
Query; otherwise the window starts clean and the block listens. -/
def Obligations.TxDoneEffect : Prop :=
  ∀ s : State,
    (s.rdr.txBusy = false → exec .txDone s = .next { s with irqPend := s.irqPend ||| 0x080 }) ∧
    (s.rdr.txBusy = true → s.rdr.rstate = .roundStart → s.rdr.stopReq = true →
      exec .txDone s = .next { s with
        rdr := { s.rdr with txBusy := false, rstate := .done, stopReq := false }
        gate := { s.gate with gstate := .idle, gLen := 0, gLastHi := 0, gBelow := 0, gKind := .r2tGap, gStart := 0 }
        irqPend := s.irqPend ||| 0x001 }) ∧
    (s.rdr.txBusy = true → s.rdr.rstate = .roundStart → s.rdr.stopReq = false →
      exec .txDone s = .next (startQuery { s with rdr := { s.rdr with txBusy := false } })) ∧
    (s.rdr.txBusy = true → s.rdr.rstate = .awaitSlotReply ∨ s.rdr.rstate = .ackSequence →
      ∃ t : State,
        exec .txDone s = .next t ∧
        t = { s with
          rdr := { s.rdr with txBusy := false, tWait := 0 }
          gate := { s.gate with gstate := .idle, gLen := 0, gLastHi := 0, gBelow := 0, gKind := .r2tGap, gStart := 0 } } ∧
        listening t = true)

/-! ### The host interface -/

/-- Rule R293: a `CTRL` write of START while running raises `WR_IGN` alone; a refused START records the check's number and
raises `CFG_ERR`; an accepted one runs `START_INIT`. -/
def Obligations.StartOutcomes : Prop :=
  ∀ (rsv : BitVec 30) (s : State),
    (s.rdr.rstate ≠ .done → exec (.ctrlStart rsv) s = .next { s with irqPend := s.irqPend ||| 0x040 }) ∧
    (s.rdr.rstate = .done → validate s.par s.cfg ≠ 0 → exec (.ctrlStart rsv) s = .next { s with
      cfgErr := true, cfgErrCode := BitVec.ofNat 4 (validate s.par s.cfg), irqPend := s.irqPend ||| 0x010 }) ∧
    (s.rdr.rstate = .done → validate s.par s.cfg = 0 → exec (.ctrlStart rsv) s = .next (startInit s))

/-- Rule R294: `VALIDATE` gives the number of the first failing check of its table, or 0 when all thirteen pass. -/
def Obligations.ValidateFirstFailing : Prop :=
  ∀ (p : Params) (c : Cfg),
    (validate p c = 0 ∧ ∀ n, ¬ checkFails p c n) ∨
    (1 ≤ validate p c ∧ validate p c ≤ 13 ∧ checkFails p c (validate p c) ∧ ∀ n < validate p c, ¬ checkFails p c n)

/-- Rule R295: an accepted START clears the last run's tally, identifiers, counters and latches, loads the noise floor and
begins the first round, with the configured Query or the configured Select; `IRQ_PEND`, `IRQ_EN` and the configuration keep
their values. -/
def Obligations.StartBeginsRun : Prop :=
  ∀ (rsv : BitVec 30) (s : State), s.rdr.rstate = .done → validate s.par s.cfg = 0 →
    ∃ t : State,
      exec (.ctrlStart rsv) s = .next t ∧
      t.par = s.par ∧ t.cfg = s.cfg ∧ t.irqPend = s.irqPend ∧ t.irqEn = s.irqEn ∧ t.inputs = s.inputs ∧
      t.cfgErr = false ∧ t.cfgErrCode = 0 ∧ t.haveLast = false ∧ t.lastIdx = 0 ∧
      t.gate = { gstate := .idle, nf := s.cfg.nfInit, gLen := 0, gLastHi := 0, gBelow := 0, gKind := .r2tGap,
                 gStart := 0 } ∧
      t.tally = State.reset.tally ∧ t.diag = State.reset.diag ∧ t.dec = State.reset.dec ∧
      t.rdr.slotsRem.toNat = 2 ^ s.cfg.rdrQ.toNat ∧ t.rdr.txBusy = true ∧ t.rdr.stopReq = false ∧ t.rdr.tWait = 0 ∧
      t.rdr.lastHandle = 0 ∧
      (∀ rn : BitVec 16, t.mem.readHb rn = false) ∧ (∀ k : Nat, t.mem.readFb k = s.mem.readFb k) ∧
      (s.cfg.selCfg.extractLsb' 0 1 = 0 → t.rdr.rstate = .awaitSlotReply ∧ t.rdr.roundNo = 1 ∧ t.rdr.lastCmd = 1 ∧
        t.outs = s.outs ++ [.cmd { kind := 1, word := configuredQueryWord s.cfg, len := 22, pre := 1,
                                   timing := s.cfg.txTiming }]) ∧
      (s.cfg.selCfg.extractLsb' 0 1 = 1 → t.rdr.rstate = .roundStart ∧ t.rdr.roundNo = 0 ∧ t.rdr.lastCmd = 5 ∧
        t.outs = s.outs ++ [.cmd { kind := 5, word := configuredSelectWord s.cfg,
                                   len := BitVec.ofNat 8 (45 + (s.cfg.selCfg.extractLsb' 16 6).toNat), pre := 0,
                                   timing := s.cfg.txTiming }])

/-- Rules R296 and R297: STOP, and START with STOP, request a stop of a running block and do nothing in `DONE`. -/
def Obligations.StopRequest : Prop :=
  ∀ (rsv : BitVec 30) (s : State),
    (s.rdr.rstate = .done → exec (.ctrlStop rsv) s = .next s ∧ exec (.ctrlStartStop rsv) s = .next s) ∧
    (s.rdr.rstate ≠ .done →
      exec (.ctrlStop rsv) s = .next { s with rdr := { s.rdr with stopReq := true } } ∧
      exec (.ctrlStartStop rsv) s = .next { s with rdr := { s.rdr with stopReq := true } })

/-- Rule R292: each bit of `IRQ_PEND` written 1 is cleared, every other keeps its value, and nothing else changes; a cause
raised later in the cycle of the clearing write stays pending: `SPUR_TXD` by the cycle's `TX_DONE`, and every cause that the
cycle's `SAMPLE` raises on its own. -/
def Obligations.IrqPendWriteOneToClear : Prop :=
  (∀ (data : BitVec 32) (s : State), ∃ p : BitVec 9,
    exec (.irqPendW1C data) s = .next { s with irqPend := p } ∧
    ∀ k < 9, p.getLsbD k = (s.irqPend.getLsbD k && !data.getLsbD k)) ∧
  (∀ (c : Cause) (s : State), (raise c s).irqPend.getLsbD c.code = true) ∧
  (∀ (data idx : BitVec 32) (i q : BitVec 16) (s : State) (rest : List Item),
    s.rdr.txBusy = false →
    s.inputs = .cycle { ctl := 0b01010, addr := 0x010, wdata := data, sIdx := idx, sI := i, sQ := q } :: rest →
    ∃ t u : State, step s = .next t ∧ step t = .next u ∧ u.inputs = rest ∧ u.irqPend.getLsbD 7 = true) ∧
  (∀ (data idx : BitVec 32) (i q : BitVec 16) (s v : State) (rest : List Item) (k : Nat),
    s.inputs = .cycle { ctl := 0b01001, addr := 0x010, wdata := data, sIdx := idx, sI := i, sQ := q } :: rest →
    exec (.sample idx i q) { s with irqPend := 0, inputs := rest } = .next v → v.irqPend.getLsbD k = true →
    ∃ t u : State, step s = .next t ∧ step t = .next u ∧ u.inputs = rest ∧ u.irqPend.getLsbD k = true)

/-- Rule R54, with rule R330's line: `IRQ_EN` takes the nine defined bits of a write at any time, and `irq` is high exactly
when an enabled cause is pending. -/
def Obligations.IrqEnableAndLine : Prop :=
  (∀ (data : BitVec 32) (s : State), exec (.irqEnWrite data) s = .next { s with irqEn := data.extractLsb' 0 9 }) ∧
  (∀ s : State, readRegister s 0x014 = s.irqEn.setWidth 32) ∧
  (∀ s : State, irq s = true ↔ ∃ k < 9, s.irqPend.getLsbD k = true ∧ s.irqEn.getLsbD k = true) ∧
  State.reset.irqEn = 0

/-- Each configuration register reads the field it names. A write of one while stopped stores its defined bits and nothing
else, in either range of the table: the register reads back the written value under the mask of its fields, and every other
host register reads as before. Derived: rules R34, R44 to R52, R57. -/
def Obligations.ConfigWriteReadsBack : Prop :=
  (∀ s : State,
    readRegister s 0x020 = s.cfg.gateKon.setWidth 32 ∧ readRegister s 0x024 = s.cfg.gateKoff.setWidth 32 ∧
    readRegister s 0x028 = s.cfg.gateTofs ∧ readRegister s 0x02C = s.cfg.nfShift.setWidth 32 ∧
    readRegister s 0x030 = s.cfg.nfInit ∧ readRegister s 0x034 = s.cfg.minLen.setWidth 32 ∧
    readRegister s 0x038 = s.cfg.maxLen.setWidth 32 ∧ readRegister s 0x03C = s.cfg.hold.setWidth 32 ∧
    readRegister s 0x040 = s.cfg.decSph.setWidth 32 ∧ readRegister s 0x044 = s.cfg.preThr.setWidth 32 ∧
    readRegister s 0x048 = s.cfg.ambFrac.setWidth 32 ∧ readRegister s 0x04C = s.cfg.ambRun.setWidth 32 ∧
    readRegister s 0x060 = s.cfg.rdrQ.setWidth 32 ∧ readRegister s 0x064 = s.cfg.maxRounds.setWidth 32 ∧
    readRegister s 0x068 = s.cfg.tSlot ∧ readRegister s 0x06C = (s.cfg.qryCfg &&& 0x1F1).setWidth 32 ∧
    readRegister s 0x070 = s.cfg.selCfg.setWidth 32 ∧ readRegister s 0x074 = s.cfg.selMask ∧
    readRegister s 0x078 = s.cfg.txTiming ∧ readRegister s 0x07C = s.cfg.dbgCtrl.setWidth 32) ∧
  (∀ (off : BitVec 5) (data : BitVec 32) (s : State), s.rdr.rstate = .done → configMask (0x020 + off.toNat) ≠ 0 →
    ∃ c : Cfg, exec (.configWriteLo off data) s = .next { s with cfg := c } ∧
      ∀ a : BitVec 12, readRegister { s with cfg := c } a =
        if a.toNat = 0x020 + off.toNat then data &&& configMask (0x020 + off.toNat) else readRegister s a) ∧
  (∀ (off : BitVec 6) (data : BitVec 32) (s : State), s.rdr.rstate = .done → configMask (0x040 + off.toNat) ≠ 0 →
    ∃ c : Cfg, exec (.configWriteHi off data) s = .next { s with cfg := c } ∧
      ∀ a : BitVec 12, readRegister { s with cfg := c } a =
        if a.toNat = 0x040 + off.toNat then data &&& configMask (0x040 + off.toNat) else readRegister s a)

/-- Host writes that store nothing: a misaligned one raises `BUS_ERR` alone, a configuration write while running raises
`WR_IGN` alone, and a write where no writable register stands does nothing. Derived: rules R44, R81, R82, R290. -/
def Obligations.IgnoredWrites : Prop :=
  (∀ (off : BitVec 5) (data : BitVec 32) (s : State),
    (off.toNat % 4 ≠ 0 → exec (.configWriteLo off data) s = .next { s with irqPend := s.irqPend ||| 0x100 }) ∧
    (off.toNat % 4 = 0 → s.rdr.rstate ≠ .done →
      exec (.configWriteLo off data) s = .next { s with irqPend := s.irqPend ||| 0x040 })) ∧
  (∀ (off : BitVec 6) (data : BitVec 32) (s : State),
    (off.toNat % 4 ≠ 0 → exec (.configWriteHi off data) s = .next { s with irqPend := s.irqPend ||| 0x100 }) ∧
    (off.toNat % 4 = 0 → 0x10 ≤ off.toNat → off.toNat ≤ 0x1C → exec (.configWriteHi off data) s = .next s) ∧
    (off.toNat % 4 = 0 → configMask (0x040 + off.toNat) ≠ 0 → s.rdr.rstate ≠ .done →
      exec (.configWriteHi off data) s = .next { s with irqPend := s.irqPend ||| 0x040 })) ∧
  (∀ (addr : BitVec 12) (data : BitVec 32) (s : State), (Instr.busWrite addr data).wellFormed = true →
    (addr.toNat % 4 ≠ 0 → exec (.busWrite addr data) s = .next { s with irqPend := s.irqPend ||| 0x100 }) ∧
    (addr.toNat % 4 = 0 → exec (.busWrite addr data) s = .next s))

/-- The host-write rows of the opcode table and `BUS_WRITE` agree: at every address and datum, the instruction the decoder
chooses completes and does what `BUS_WRITE` does there. Derived: rule R290; log entry 4. -/
def Obligations.HostWriteRowsAgreeWithBusWrite : Prop :=
  ∀ (addr : BitVec 12) (data : BitVec 32) (s : State),
    ∃ t : State, exec (decodeHostWrite addr data) s = .next t ∧ exec (.busWrite addr data) s = .next t

/-- Rules R113 and R291: a read puts one word on the bus and changes nothing but the `BUS_ERR` of a misaligned one, which
returns 0; a cycle with both strobes is the write, then `BUS_ERR`, and returns 0. -/
def Obligations.BusReads : Prop :=
  (∀ (addr : BitVec 12) (s : State),
    (addr.toNat % 4 = 0 → exec (.busRead addr) s = .next { s with outs := s.outs ++ [.rdata (readRegister s addr)] }) ∧
    (addr.toNat % 4 ≠ 0 → exec (.busRead addr) s =
      .next { s with irqPend := s.irqPend ||| 0x100, outs := s.outs ++ [.rdata 0] })) ∧
  (∀ (addr : BitVec 12) (data : BitVec 32) (s : State), ∃ w : State,
    exec (.busWrite addr data) s = .next w ∧
    exec (.busWriteRead addr data) s =
      .next { w with irqPend := w.irqPend ||| 0x100, outs := w.outs ++ [.rdata 0] })

/-- Rules R40, R41, R43 and R56: the identification registers, every field of `STATUS`, and the tally and status block,
register by register; `CTRL` reads 0 and `IRQ_PEND`, `IRQ_EN` and `CFG_ERR_CODE` read their state (rules R42, R53 to R55). -/
def Obligations.ReadOnlyRegisters : Prop :=
  ∀ s : State,
    readRegister s 0x000 = 0x47325244 ∧ readRegister s 0x004 = 0x00000001 ∧
    readRegister s 0x008 = 0 ∧ readRegister s 0x010 = s.irqPend.setWidth 32 ∧
    readRegister s 0x014 = s.irqEn.setWidth 32 ∧ readRegister s 0x018 = s.cfgErrCode.setWidth 32 ∧
    (readRegister s 0x00C).extractLsb' 0 3 = (match s.rdr.rstate with
      | .done => 0 | .roundStart => 1 | .awaitSlotReply => 2 | .slotEmpty => 3 | .slotSuccess => 4
      | .slotCollision => 5 | .ackSequence => 6) ∧
    (readRegister s 0x00C).getLsbD 3 = false ∧
    (readRegister s 0x00C).extractLsb' 4 2 = (match s.gate.gstate with | .idle => 0 | .inFrame => 1 | .done => 2) ∧
    (readRegister s 0x00C).getLsbD 6 = s.rdr.txBusy ∧
    ((readRegister s 0x00C).getLsbD 7 = true ↔
      (s.rdr.rstate = .awaitSlotReply ∨ s.rdr.rstate = .ackSequence) ∧ s.rdr.txBusy = false) ∧
    (readRegister s 0x00C).getLsbD 8 = s.rdr.stopReq ∧
    (readRegister s 0x00C).getLsbD 9 = s.cfgErr ∧
    ((readRegister s 0x00C).getLsbD 10 = true ↔ s.rdr.rstate ≠ .done) ∧
    (readRegister s 0x00C).getLsbD 11 = s.haveLast ∧
    ((readRegister s 0x00C).getLsbD 12 = true ↔ s.gate.gstate = .inFrame ∧ s.gate.gKind = .tagReply) ∧
    ((readRegister s 0x00C).getLsbD 13 = true ↔ s.tally.tDistinct.toNat = s.par.idCap) ∧
    (readRegister s 0x00C).extractLsb' 14 18 = 0 ∧
    readRegister State.reset 0x00C = 0 ∧
    readRegister s 0x100 = s.rdr.roundNo ∧ readRegister s 0x104 = s.rdr.slotsRem.setWidth 32 ∧
    readRegister s 0x108 = s.tally.tRounds ∧ readRegister s 0x10C = s.tally.tSuccess ∧
    readRegister s 0x110 = s.tally.tCollision ∧ readRegister s 0x114 = s.tally.tEmpty ∧
    readRegister s 0x118 = s.tally.tDistinct ∧ readRegister s 0x11C = s.tally.rSuccess ∧
    readRegister s 0x120 = s.tally.rCollision ∧ readRegister s 0x124 = s.tally.rEmpty ∧
    readRegister s 0x128 = s.tally.lSuccess ∧ readRegister s 0x12C = s.tally.lCollision ∧
    readRegister s 0x130 = s.tally.lEmpty ∧ readRegister s 0x134 = s.gate.nf ∧
    readRegister s 0x138 = s.lastIdx ∧ readRegister s 0x13C = s.rdr.tWait ∧
    readRegister s 0x140 = s.diag.discontCnt ∧ readRegister s 0x144 = s.diag.blipCnt ∧
    readRegister s 0x148 = s.diag.gapCnt ∧ readRegister s 0x14C = s.diag.forcedCnt ∧
    readRegister s 0x150 = s.diag.hrepCnt ∧ readRegister s 0x154 = s.diag.timeoutCnt ∧
    readRegister s 0x158 = s.rdr.lastHandle.setWidth 32 ∧ readRegister s 0x15C = s.rdr.lastCmd.setWidth 32 ∧
    readRegister s 0x160 = s.dec.last ∧ readRegister s 0x164 = s.dec.lastT.setWidth 32 ∧
    readRegister s 0x168 = s.dec.lastRn.setWidth 32 ∧
    (∀ a : BitVec 12, 0x16C ≤ a.toNat → a.toNat ≤ 0x3FF → readRegister s a = 0)

/-- The `ID_TABLE` window of rule R85: the four words of entry `k` when the entry is valid, and 0 otherwise. Derived: the
rule also names what appends to the store and what empties it. -/
def Obligations.IdTableWindow : Prop :=
  ∀ (s : State) (k : Nat), k < 64 →
    (k < s.tally.tDistinct.toNat →
      readRegister s (BitVec.ofNat 12 (0x400 + 16 * k)) = (s.mem.readId k).epc.extractLsb' 64 32 ∧
      readRegister s (BitVec.ofNat 12 (0x400 + 16 * k + 4)) = (s.mem.readId k).epc.extractLsb' 32 32 ∧
      readRegister s (BitVec.ofNat 12 (0x400 + 16 * k + 8)) = (s.mem.readId k).epc.extractLsb' 0 32 ∧
      readRegister s (BitVec.ofNat 12 (0x400 + 16 * k + 12)) = (s.mem.readId k).pc.setWidth 32) ∧
    (s.tally.tDistinct.toNat ≤ k → ∀ j < 4, readRegister s (BitVec.ofNat 12 (0x400 + 16 * k + 4 * j)) = 0)

/-- Rule R81: at a word-aligned offset that the register map does not name, a read returns 0 and changes nothing, and a
write is ignored; no cause is raised. -/
def Obligations.UnmappedOffsets : Prop :=
  ∀ (addr : BitVec 12) (data : BitVec 32) (s : State), addr.toNat % 4 = 0 → mappedOffset addr.toNat = false →
    exec (.busRead addr) s = .next { s with outs := s.outs ++ [.rdata 0] } ∧
    exec (decodeHostWrite addr data) s = .next s

/-- Rules R58 and R360: the state right after `RESET`, in every element but the frame buffer, whose contents the spec leaves
unspecified; nothing is emitted, and a late `TX_DONE` is spurious. With this hardware's `FB_DEPTH` of 8192, or a larger one,
the reset configuration passes validation (rule R362), and a START begins a run with four slots and the Query word 0x200042
(the example of rule R295). -/
def Obligations.ResetState : Prop :=
  ∀ s : State, ∃ t : State,
    exec .reset s = .next t ∧ t.par = s.par ∧ t.outs = s.outs ∧ irq t = false ∧
    t.rdr = { rstate := .done, txBusy := false, stopReq := false, roundNo := 0, slotsRem := 0, tWait := 0,
              lastHandle := 0, lastCmd := 0 } ∧
    t.gate = { gstate := .idle, nf := 256, gLen := 0, gLastHi := 0, gBelow := 0, gKind := .r2tGap, gStart := 0 } ∧
    t.tally = { tSuccess := 0, tCollision := 0, tEmpty := 0, tRounds := 0, tDistinct := 0, rSuccess := 0,
                rCollision := 0, rEmpty := 0, lSuccess := 0, lCollision := 0, lEmpty := 0 } ∧
    t.diag = { discontCnt := 0, blipCnt := 0, gapCnt := 0, forcedCnt := 0, hrepCnt := 0, timeoutCnt := 0 } ∧
    t.dec = { last := 0, lastT := 0, lastRn := 0 } ∧
    t.lastIdx = 0 ∧ t.haveLast = false ∧ t.cfgErr = false ∧ t.cfgErrCode = 0 ∧ t.irqPend = 0 ∧ t.irqEn = 0 ∧
    (∀ rn : BitVec 16, t.mem.readHb rn = false) ∧
    t.cfg = { gateKon := 32, gateKoff := 24, gateTofs := 256, nfShift := 6, nfInit := 256, minLen := 64, maxLen := 8192,
              hold := 128, decSph := 25, preThr := 8, ambFrac := 4, ambRun := 3, rdrQ := 2, maxRounds := 1000,
              tSlot := 1000, qryCfg := 0, selCfg := 0, selMask := 0, txTiming := 0, dbgCtrl := 0 } ∧
    exec .txDone t = .next { t with irqPend := 0x080 } ∧
    State.reset.par.fbDepth = 8192 ∧
    (8192 ≤ s.par.fbDepth → validate t.par t.cfg = 0 ∧
      ∃ u : State, exec (.ctrlStart 0) t = .next u ∧
        u.outs = s.outs ++ [.cmd { kind := 1, word := 0x200042, len := 22, pre := 1, timing := 0 }] ∧
        u.rdr.slotsRem = 4 ∧ u.rdr.roundNo = 1 ∧
        (s.par.idCap ≠ 0 → readRegister u 0x00C = 0x00000442))

/-! ### The Gate and the sample step -/

/-- Rule R171: a sample while stopped changes no state at all. -/
def Obligations.SampleWhileStopped : Prop :=
  ∀ (idx : BitVec 32) (i q : BitVec 16) (s : State), s.rdr.rstate = .done → exec (.sample idx i q) s = .next s

/-- In every good state a sample completes. It notes its index, keeps the configuration, the interrupt enables and the
configuration error, writes no frame-buffer entry but the next one of the frame, and touches no valid identifier.
Derived: rules R44, R83, R85, R170, R181; `Inv` is the model's name for rule R33 and the facts beside it. -/
def Obligations.SampleCompletes : Prop :=
  ∀ (idx : BitVec 32) (i q : BitVec 16) (s : State), Inv s → s.mem.wf = true → s.rdr.rstate ≠ .done →
    ∃ t : State, exec (.sample idx i q) s = .next t ∧
      t.lastIdx = idx ∧ t.haveLast = true ∧ t.cfg = s.cfg ∧ t.irqEn = s.irqEn ∧ t.cfgErr = s.cfgErr ∧
      t.cfgErrCode = s.cfgErrCode ∧ t.inputs = s.inputs ∧
      (∀ k : Nat, k ≠ (if (noteIndex idx s).gate.gstate = .inFrame then (noteIndex idx s).gate.gLen.toNat else 0) →
        t.mem.readFb k = s.mem.readFb k) ∧
      (∀ k : Nat, k ≠ s.tally.tDistinct.toNat → t.mem.readId k = s.mem.readId k)

/-- A sample's energy is `I*I + Q*Q` (rule R170). The noise-floor update of rules R172 and R173, in a running block that is
not listening (a listening one is `SlotTimer`'s): an idle sample whose energy does not exceed `thr_on` moves `NF` by the
floored fraction, between its old value and the energy, and changes nothing else but the index registers. Derived: the
rule's other branch is `FrameOpensOnRise`. -/
def Obligations.NoiseFloorUpdate : Prop :=
  (∀ i q : BitVec 16, (energy i q : Int) = i.toInt * i.toInt + q.toInt * q.toInt) ∧
  ∀ (idx : BitVec 32) (i q : BitVec 16) (s : State), s.rdr.rstate ≠ .done → listening s = false →
    s.gate.gstate = .idle → (s.haveLast = true → idx = s.lastIdx + 1) →
    energy i q ≤ min (s.gate.nf.toNat * s.cfg.gateKon.toNat / 16 + s.cfg.gateTofs.toNat) (2 ^ 32 - 1) →
    ∃ nf : BitVec 32,
      exec (.sample idx i q) s = .next { s with lastIdx := idx, haveLast := true, gate := { s.gate with nf } } ∧
      (nf.toNat : Int) = s.gate.nf.toNat + ((energy i q : Int) - s.gate.nf.toNat) / 2 ^ s.cfg.nfShift.toNat ∧
      min s.gate.nf.toNat (energy i q) ≤ nf.toNat ∧ nf.toNat ≤ max s.gate.nf.toNat (energy i q)

/-- The opening of a frame by rules R173 and R178: a sample above `thr_on` in an idle Gate is stored as entry 0 and opens a
frame whose kind says whether the block was listening; a listening block's slot timer counts it (rule R255). Derived: it
needs a validated configuration, so that `MAX_LEN` is not 1. -/
def Obligations.FrameOpensOnRise : Prop :=
  ∀ (idx : BitVec 32) (i q : BitVec 16) (s : State), s.rdr.rstate ≠ .done → s.mem.wf = true →
    s.gate.gstate = .idle → (s.haveLast = true → idx = s.lastIdx + 1) → validate s.par s.cfg = 0 →
    min (s.gate.nf.toNat * s.cfg.gateKon.toNat / 16 + s.cfg.gateTofs.toNat) (2 ^ 32 - 1) < energy i q →
    ∃ m : Memory,
      exec (.sample idx i q) s = .next { s with
        lastIdx := idx, haveLast := true
        gate := { s.gate with gstate := .inFrame, gLen := 1, gLastHi := 1, gBelow := 0, gStart := idx,
                              gKind := if listening s then .tagReply else .r2tGap }
        mem := m
        rdr := { s.rdr with tWait := if listening s then BitVec.ofNat 32 (min (s.rdr.tWait.toNat + 1) (2 ^ 32 - 1))
                                     else s.rdr.tWait } } ∧
      (∀ k : Nat, m.readFb k = if k = 0 then { i, q } else s.mem.readFb k) ∧
      (∀ rn : BitVec 16, m.readHb rn = s.mem.readHb rn) ∧ (∀ k : Nat, m.readId k = s.mem.readId k)

/-- The growth of an open frame by rules R174 and R255: a sample that neither completes a fall nor reaches `MAX_LEN` is
stored at `FB[G_LEN]` and counted as high or below; no timeout is taken while the frame is open. Derived: the rule's closing
branches are `FrameCloses`. -/
def Obligations.FrameGrows : Prop :=
  ∀ (idx : BitVec 32) (i q : BitVec 16) (s : State), Inv s → s.mem.wf = true → s.rdr.rstate ≠ .done →
    s.gate.gstate = .inFrame → (s.haveLast = true → idx = s.lastIdx + 1) →
    s.gate.gLen.toNat + 1 < s.cfg.maxLen.toNat →
    let thr := min (s.gate.nf.toNat * s.cfg.gateKoff.toNat / 16 + s.cfg.gateTofs.toNat) (2 ^ 32 - 1)
    (thr ≤ energy i q ∨ s.gate.gBelow.toNat + 1 < s.cfg.hold.toNat) →
    ∃ m : Memory,
      exec (.sample idx i q) s = .next { s with
        lastIdx := idx, haveLast := true
        gate := if thr ≤ energy i q then
            { s.gate with gLen := s.gate.gLen + 1, gLastHi := s.gate.gLen + 1, gBelow := 0 }
          else { s.gate with gLen := s.gate.gLen + 1, gBelow := s.gate.gBelow + 1 }
        mem := m
        rdr := { s.rdr with tWait := if listening s then BitVec.ofNat 32 (min (s.rdr.tWait.toNat + 1) (2 ^ 32 - 1))
                                     else s.rdr.tWait } } ∧
      (∀ k : Nat, m.readFb k = if k = s.gate.gLen.toNat then { i, q } else s.mem.readFb k) ∧
      (∀ rn : BitVec 16, m.readHb rn = s.mem.readHb rn) ∧ (∀ k : Nat, m.readId k = s.mem.readId k)

/-- The close of a frame by rules R174 to R177: the sample that completes a fall closes the frame with length `G_LASTHI`,
else the one that reaches `MAX_LEN` closes it by force; a frame shorter than `MIN_LEN` is counted as a blip and dropped.
While the block is not listening the frame is a gap frame: it is decoded as `NoReply(reason 1)`, counted and dropped (rules
R201, R250); either way the sample is stored at `FB[G_LEN]`, the index registers note it, the Gate is reset and nothing else
changes. While it listens the frame is a tag reply: it is decoded from `FB[0..len-1]` with the reply length of rule R30,
latched and handed to the Reader in the same step (rules R83, R170, R212, R250); a blip leaves the slot timer running, and at
`T_SLOT` the timeout is taken in the same step (rules R177, R255, R264). Derived: from the rules named. -/
def Obligations.FrameCloses : Prop :=
  (∀ (idx : BitVec 32) (i q : BitVec 16) (s : State), Inv s → s.rdr.rstate ≠ .done → listening s = false →
    s.gate.gstate = .inFrame → (s.haveLast = true → idx = s.lastIdx + 1) →
    let thr := min (s.gate.nf.toNat * s.cfg.gateKoff.toNat / 16 + s.cfg.gateTofs.toNat) (2 ^ 32 - 1)
    let falls : Prop := energy i q < thr ∧ s.gate.gBelow.toNat + 1 = s.cfg.hold.toNat
    (falls ∨ s.gate.gLen.toNat + 1 = s.cfg.maxLen.toNat) →
    let blip : Prop := falls ∧ s.gate.gLastHi.toNat < s.cfg.minLen.toNat
    ∃ (m : Memory) (dec : DecLast) (diag : Diag),
      exec (.sample idx i q) s = .next { s with
        lastIdx := idx, haveLast := true, mem := m, dec, diag
        gate := { s.gate with gstate := .idle, gLen := 0, gLastHi := 0, gBelow := 0, gKind := .r2tGap, gStart := 0 } } ∧
      (s.mem.wf = true → ∀ k : Nat, m.readFb k = if k = s.gate.gLen.toNat then { i, q } else s.mem.readFb k) ∧
      (∀ rn : BitVec 16, m.readHb rn = s.mem.readHb rn) ∧ (∀ k : Nat, m.readId k = s.mem.readId k) ∧
      (blip → dec = s.dec ∧ diag = { s.diag with blipCnt := s.diag.blipCnt + 1 }) ∧
      (falls → ¬ blip → dec = { last := 0x10, lastT := 0, lastRn := 0 } ∧
        diag = { s.diag with gapCnt := s.diag.gapCnt + 1 }) ∧
      (¬ falls → dec = { last := 0x10, lastT := 0, lastRn := 0 } ∧
        diag = { s.diag with gapCnt := s.diag.gapCnt + 1, forcedCnt := s.diag.forcedCnt + 1 })) ∧
  (∀ (idx : BitVec 32) (i q : BitVec 16) (s : State), Inv s → s.mem.wf = true → listening s = true →
    s.gate.gstate = .inFrame → (s.haveLast = true → idx = s.lastIdx + 1) →
    let thr := min (s.gate.nf.toNat * s.cfg.gateKoff.toNat / 16 + s.cfg.gateTofs.toNat) (2 ^ 32 - 1)
    let falls : Prop := energy i q < thr ∧ s.gate.gBelow.toNat + 1 = s.cfg.hold.toNat
    (falls ∨ s.gate.gLen.toNat + 1 = s.cfg.maxLen.toNat) →
    ∃ m : Memory,
      (∀ k : Nat, m.readFb k = if k = s.gate.gLen.toNat then { i, q } else s.mem.readFb k) ∧
      (∀ rn : BitVec 16, m.readHb rn = s.mem.readHb rn) ∧ (∀ k : Nat, m.readId k = s.mem.readId k) ∧
      let closed : State := { s with
        lastIdx := idx, haveLast := true, mem := m
        gate := { s.gate with gstate := .idle, gLen := 0, gLastHi := 0, gBelow := 0, gKind := .r2tGap, gStart := 0 } }
      let received (len : BitVec 16) (forced : Bool) (u : State) : State :=
        let energies := (List.range len.toNat).map fun k => energy (m.readFb k).i (m.readFb k).q
        let d := decodeEnergies s.cfg .tagReply energies (if s.rdr.rstate = .ackSequence then .id else .rn16)
        onFrame { kind := .tagReply, start := s.gate.gStart, len, forced } d (latchLast d u)
      (falls → s.cfg.minLen.toNat ≤ s.gate.gLastHi.toNat →
        exec (.sample idx i q) s = .next (received s.gate.gLastHi false closed)) ∧
      (¬ falls → exec (.sample idx i q) s = .next (received s.cfg.maxLen true
        { closed with diag := { s.diag with forcedCnt := s.diag.forcedCnt + 1 } })) ∧
      (falls → s.gate.gLastHi.toNat < s.cfg.minLen.toNat →
        let u : State := { closed with
          diag := { s.diag with blipCnt := s.diag.blipCnt + 1 }
          rdr := { s.rdr with tWait := BitVec.ofNat 32 (min (s.rdr.tWait.toNat + 1) (2 ^ 32 - 1)) } }
        (u.rdr.tWait.toNat < s.cfg.tSlot.toNat → exec (.sample idx i q) s = .next u) ∧
        (s.cfg.tSlot.toNat ≤ u.rdr.tWait.toNat → exec (.sample idx i q) s =
          .next (endSlot (if s.rdr.rstate = .ackSequence then .collision else .empty)
            { u with diag := { u.diag with timeoutCnt := s.diag.timeoutCnt + 1 } }))))

/-- The bounds of rule R181: in a good state of a running block, a frame that the Gate emits has `MIN_LEN ≤ len ≤ MAX_LEN`,
a forced one has length `MAX_LEN`, and the Gate is idle again. Derived from rules R173 to R176. -/
def Obligations.EmittedFrameBounds : Prop :=
  ∀ (idx : BitVec 32) (x : Sample) (s : State) (f : Frame), Inv s → s.rdr.rstate ≠ .done →
    (gateStep idx x s).2 = some f →
    s.cfg.minLen.toNat ≤ f.len.toNat ∧ f.len.toNat ≤ s.cfg.maxLen.toNat ∧
      (f.forced = true → f.len = s.cfg.maxLen) ∧ f.kind = s.gate.gKind ∧ f.start = s.gate.gStart ∧
      (gateStep idx x s).1.gate.gstate = .idle

/-- Rule R179: a sample whose index does not follow the last one counts a discontinuity, raises `DISCONT`, discards an open
frame, and is then processed as the first sample of a new run. -/
def Obligations.DiscontinuityResynchronises : Prop :=
  ∀ (idx : BitVec 32) (i q : BitVec 16) (s : State), s.rdr.rstate ≠ .done → s.haveLast = true →
    idx ≠ s.lastIdx + 1 →
    exec (.sample idx i q) s = exec (.sample idx i q) { s with
      haveLast := false
      diag := { s.diag with discontCnt := s.diag.discontCnt + 1 }
      irqPend := s.irqPend ||| 0x008
      gate := if s.gate.gstate = .inFrame then
          { s.gate with gstate := .idle, gLen := 0, gLastHi := 0, gBelow := 0, gKind := .r2tGap, gStart := 0 }
        else s.gate }

/-- Rule R255 on a quiet idle sample of a listening block: the slot timer counts it, and at `T_SLOT` the slot ends, EMPTY in
`AWAIT_SLOT_REPLY` and COLLISION in `ACK_SEQUENCE`, with `DEC_LAST` unchanged; the noise floor moves in the same step, by the
floored fraction. Derived: rules R172, R173, R251, R254, R255. -/
def Obligations.SlotTimer : Prop :=
  ∀ (idx : BitVec 32) (i q : BitVec 16) (s : State), listening s = true → s.gate.gstate = .idle →
    (s.haveLast = true → idx = s.lastIdx + 1) → energy i q ≤ thrOn s →
    ∃ u : State,
      u = { s with lastIdx := idx, haveLast := true, gate := { s.gate with nf := u.gate.nf },
                   rdr := { s.rdr with tWait := u.rdr.tWait } } ∧
      u.rdr.tWait.toNat = min (s.rdr.tWait.toNat + 1) (2 ^ 32 - 1) ∧
      (u.gate.nf.toNat : Int) = s.gate.nf.toNat + ((energy i q : Int) - s.gate.nf.toNat) / 2 ^ s.cfg.nfShift.toNat ∧
      (u.rdr.tWait.toNat < s.cfg.tSlot.toNat → exec (.sample idx i q) s = .next u) ∧
      (s.cfg.tSlot.toNat ≤ u.rdr.tWait.toNat → s.rdr.rstate = .awaitSlotReply →
        exec (.sample idx i q) s =
          .next (endSlot .empty { u with diag := { u.diag with timeoutCnt := u.diag.timeoutCnt + 1 } })) ∧
      (s.cfg.tSlot.toNat ≤ u.rdr.tWait.toNat → s.rdr.rstate = .ackSequence →
        exec (.sample idx i q) s =
          .next (endSlot .collision { u with diag := { u.diag with timeoutCnt := u.diag.timeoutCnt + 1 } }))

/-! ### The decoder, the CRCs and the line code -/

/-- Rule R213: an ideal FM0 frame of the expected length, its two levels of different energies and clear of the ambiguity
threshold, decodes at offset 0 to exactly the bits it was built from. -/
def Obligations.DecoderRoundTrip : Prop :=
  ∀ (c : Cfg) (expect : Expect) (bits : List Bool) (h l : Nat),
    bits.length = expect.bits → h ≠ l → c.decSph ≠ 0 → c.preThr.toNat ≤ 16 → c.ambRun ≠ 0 →
    let p := c.decSph.toNat
    let es := idealEnergies p h l bits
    let dh := ((es.length : Int) * (p * h : Nat) - p * (es.sum : Int)).natAbs
    let dl := ((es.length : Int) * (p * l : Nat) - p * (es.sum : Int)).natAbs
    c.ambFrac.toNat * (dh + dl) ≤ 32 * min dh dl →
    decodeEnergies c .tagReply es expect = match expect with
      | .rn16 => rn16Result bits 0
      | .id => idResult bits 0

/-- Rule R211's corner case: the identifier reply of 128 bits with a right check value is valid, and flipping any single
one of its bits makes it invalid. -/
def Obligations.CrcDetectsSingleBitFlip : Prop :=
  ∀ (x : List Bool) (k t : Nat), x.length = 128 → k < 128 →
    crc16 (x.take 112) = BitVec.ofNat 16 (msbFirst (x.drop 112)) →
    (idResult x t).valid = true ∧ (idResult (x.modify k (!·)) t).valid = false

/-- The CRCs of rules R140 and R141, bit by bit: the preset, one shift per bit with the polynomial where the bit and the top
bit differ, and for CRC-16 the final inversion; each rule's check value; and the residues: a message followed by its CRC
leaves 0 in CRC-5 and 0x1D0F in the uninverted CRC-16 register. Derived: from the two rules. -/
def Obligations.CrcResidue : Prop :=
  crc5 [] = 0b01001 ∧
  (∀ (bits : List Bool) (b : Bool), crc5 (bits ++ [b]) =
    if (crc5 bits).getLsbD 4 = b then crc5 bits <<< 1 else (crc5 bits <<< 1) ^^^ 0b01001) ∧
  (∀ bits : List Bool, crc5 (bits ++ bitsOf 5 (crc5 bits).toNat) = 0) ∧
  crc5 (bitsOf 72 0x313233343536373839) = 0 ∧
  crc16Register [] = 0xFFFF ∧
  (∀ (bits : List Bool) (b : Bool), crc16Register (bits ++ [b]) =
    if (crc16Register bits).getLsbD 15 = b then crc16Register bits <<< 1
    else (crc16Register bits <<< 1) ^^^ 0x1021) ∧
  (∀ bits : List Bool, crc16 bits = crc16Register bits ^^^ 0xFFFF) ∧
  (∀ bits : List Bool, crc16Register (bits ++ bitsOf 16 (crc16 bits).toNat) = 0x1D0F) ∧
  crc16 (bitsOf 72 0x313233343536373839) = 0xD64E

/-- Rule R204: the search returns the smallest offset at which the correlation's magnitude is largest, and that magnitude
never exceeds the sum of the windows' magnitudes. -/
def Obligations.PreambleSearch : Prop :=
  (∀ (f : Nat → Int) (n : Nat),
    (peak f n).1 ≤ n ∧ (peak f n).2 = (f (peak f n).1).natAbs ∧
    (∀ k ≤ n, (f k).natAbs ≤ (f (peak f n).1).natAbs) ∧
    (∀ k < (peak f n).1, (f k).natAbs < (f (peak f n).1).natAbs)) ∧
  (∀ (es : List Nat) (total p t : Nat), ((correlation es total p t).natAbs : Int) ≤ magnitude es total p t)

/-- The verdict of the decoder on every frame. A gap frame (rule R201), one shorter than the preamble (rule R202) and one of
constant energy (a corner case of rule R205) hold no reply. Otherwise, with `t` the earliest offset of the largest
correlation (rules R203, R204): a peak below the threshold is no reply (rule R205), a payload that does not fit is truncated
(rule R206), a run of `AMB_RUN` ambiguous symbols is a collision (rule R208), and else the bits of rule R207 are the reply of
rules R209 to R211. Derived: from the rules named; that the fields a kind of reply lacks (rule R154) are 0 is the model's
choice (log entry 25). -/
def Obligations.DecoderVerdicts : Prop :=
  (∀ (c : Cfg) (expect : Expect),
    (∀ es : List Nat, decodeEnergies c .r2tGap es expect = .noReply .gapFrame) ∧
    (∀ es : List Nat, es.length < 12 * c.decSph.toNat → decodeEnergies c .tagReply es expect = .noReply .tooShort) ∧
    (∀ n e : Nat, 12 * c.decSph.toNat ≤ n →
      decodeEnergies c .tagReply (List.replicate n e) expect = .noReply .noPeak)) ∧
  (∀ (c : Cfg) (expect : Expect) (es : List Nat) (t : Nat),
    let p := c.decSph.toNat
    let nb := match expect with | .rn16 => 16 | .id => 128
    let D (u : Nat) : Int := es.length * (((es.drop u).take p).sum : Nat) - p * (es.sum : Nat)
    let C (k : Nat) : Int := (List.zipWith (· * ·) [1, 1, -1, 1, -1, -1, 1, -1, -1, -1, 1, 1]
      ((List.range 12).map fun j => D (k + j * p))).sum
    let M : Int := ((List.range 12).map fun j => |D (t + j * p)|).sum
    t + 12 * p ≤ es.length → (∀ k, k + 12 * p ≤ es.length → |C k| ≤ |C t|) → (∀ k < t, |C k| < |C t|) →
    let rejected : Prop := M = 0 ∨ 16 * |C t| < c.preThr.toNat * M
    let truncated : Prop := es.length < t + 12 * p + 2 * nb * p
    let ambiguous (b : Nat) : Prop := ∃ h < 2, 192 * |D (t + 12 * p + (2 * b + h) * p)| < c.ambFrac.toNat * M
    let collided : Prop := ∃ b0, b0 + c.ambRun.toNat ≤ nb ∧ ∀ b, b0 ≤ b → b < b0 + c.ambRun.toNat → ambiguous b
    let r := decodeEnergies c .tagReply es expect
    (rejected → r = .noReply .noPeak) ∧
    (¬ rejected → truncated → r = .collision .truncated t) ∧
    (¬ rejected → ¬ truncated → collided → r = .collision .ambiguityRun t) ∧
    (¬ rejected → ¬ truncated → ¬ collided → ∃ x : List Bool, x.length = nb ∧
      (∀ b < nb, x[b]? = some (decide (0 ≤ D (t + 12 * p + 2 * b * p)) == decide (0 ≤ D (t + 12 * p + 2 * b * p + p)))) ∧
      r = match expect with
        | .rn16 => { kind := .randomNumber, valid := true, reason := .decoded, rn := BitVec.ofNat 16 (msbFirst x),
                     pc := 0, epc := 0, t }
        | .id => { kind := .identifierReply, reason := .decoded, rn := 0, t
                   valid := crc16 (x.take 112) == BitVec.ofNat 16 (msbFirst (x.drop 112))
                   pc := BitVec.ofNat 16 (msbFirst (x.take 16))
                   epc := BitVec.ofNat 96 (msbFirst ((x.drop 16).take 96)) }))

/-- Rule R212: the last-decode registers after a decode. -/
def Obligations.LatchLast : Prop :=
  ∀ (r : Decoded) (s : State), ∃ d : DecLast, latchLast r s = { s with dec := d } ∧
    d.last.extractLsb' 0 2 = (match r.kind with
      | .noReply => 0 | .randomNumber => 1 | .identifierReply => 2 | .collisionOrNoise => 3) ∧
    d.last.getLsbD 2 = r.valid ∧ d.last.getLsbD 3 = false ∧
    d.last.extractLsb' 4 3 = (match r.reason with
      | .decoded => 0 | .gapFrame => 1 | .tooShort => 2 | .noPeak => 3 | .truncated => 4 | .ambiguityRun => 5) ∧
    d.last.extractLsb' 7 25 = 0 ∧
    d.lastT = (if r.reason = .decoded ∨ r.reason = .truncated ∨ r.reason = .ambiguityRun then BitVec.ofNat 16 r.t
      else 0) ∧
    d.lastRn = (if r.kind = .randomNumber then r.rn else if r.kind = .identifierReply then r.pc else 0)

/-- Rules R150 and R151: the levels of an FM0 reply are the preamble, then two half-symbols a bit and two for a dummy 1; the
level inverts at every symbol boundary, and a bit is 1 exactly when its two half-symbols have the same level. -/
def Obligations.Fm0LineCode : Prop :=
  ∀ bits : List Bool,
    (fm0Halves bits).length = 12 + 2 * (bits.length + 1) ∧
    (fm0Halves bits).take 12 =
      [true, true, false, true, false, false, true, false, false, false, true, true] ∧
    (∀ k ≤ bits.length, (fm0Halves bits)[12 + 2 * k]? ≠ (fm0Halves bits)[12 + 2 * k - 1]?) ∧
    (∀ k ≤ bits.length,
      ((fm0Halves bits)[12 + 2 * k]? = (fm0Halves bits)[12 + 2 * k + 1]? ↔ (bits ++ [true])[k]? = some true))

/-! ### Received replies -/

/-- A reply stands for the `SAMPLE` events of its FM0 waveform (rule R166): its instruction completes in every state, a stopped
block drops it (rule R171), and a running one finds those events first in line and keeps every element as it was. There are
`DEC_SPH` samples for each half-symbol level, at consecutive indices that continue the last one used, with `I` the amplitude
of the level and `Q = 0`. Derived: rules R10, R110, R111, R150 to R153, R166, R171; log entry 8. -/
def Obligations.ReplyCompletes : Prop :=
  ∀ (i : Instr) (bits : List Bool) (hi lo : BitVec 16) (s : State),
    ((∃ rn, i = .replyRn16 rn hi lo ∧ bits = bitsOf 16 rn.toNat) ∨
      ∃ pc epc crc, i = .replyId pc epc crc hi lo ∧
        bits = bitsOf 16 pc.toNat ++ bitsOf 96 epc.toNat ++ bitsOf 16 crc.toNat) →
    (s.rdr.rstate = .done → exec i s = .next s) ∧
    (s.rdr.rstate ≠ .done → ∃ samples : List Item,
      exec i s = .next { s with inputs := samples ++ s.inputs } ∧
      samples.length = (14 + 2 * bits.length) * s.cfg.decSph.toNat ∧
      ∀ k < samples.length, samples[k]? = some (.cycle
        { ctl := 0b00001, addr := 0, wdata := 0
          sIdx := (if s.haveLast then s.lastIdx + 1 else 0) + BitVec.ofNat 32 k
          sI := if (fm0Halves bits)[k / s.cfg.decSph.toNat]? = some true then hi else lo, sQ := 0 }))

/-- A reply above the noise, pending at a listening block with an idle Gate, with a `HOLD` longer than the three
half-symbols of one level that the preamble holds (rule R376(a)) and room for it below `MAX_LEN`, is framed whole: one step
takes the reply up and one more takes each of its samples, and then the open tag-reply frame holds exactly the samples of
its FM0 waveform, from its first one on. Derived: rules R10, R150 to R153, R166, R173, R174, R178, R255; log entry 8. -/
def Obligations.ReplyIsFramedWhole : Prop :=
  ∀ (i : Instr) (bits : List Bool) (hi lo : BitVec 16) (s : State) (rest : List Item),
    ((∃ rn, i = .replyRn16 rn hi lo ∧ bits = bitsOf 16 rn.toNat) ∨
      ∃ pc epc crc, i = .replyId pc epc crc hi lo ∧
        bits = bitsOf 16 pc.toNat ++ bitsOf 96 epc.toNat ++ bitsOf 16 crc.toNat) →
    s.inputs = encode i :: rest → Inv s → s.mem.wf = true → listening s = true → s.gate.gstate = .idle →
    thrOn s < energy hi 0 → 3 * s.cfg.decSph.toNat < s.cfg.hold.toNat →
    let p := s.cfg.decSph.toNat
    let n := (14 + 2 * bits.length) * p
    n < s.cfg.maxLen.toNat →
    ∃ t : State, Sys2Proof.core.run (1 + n) s = .next t ∧ t.inputs = rest ∧
      t.gate.gstate = .inFrame ∧ t.gate.gKind = .tagReply ∧ t.gate.gLen.toNat = n ∧
      t.gate.gStart = (if s.haveLast then s.lastIdx + 1 else 0) ∧ t.gate.nf = s.gate.nf ∧
      t.rdr = { s.rdr with tWait := BitVec.ofNat 32 (min (s.rdr.tWait.toNat + n) (2 ^ 32 - 1)) } ∧
      t.outs = s.outs ∧ t.tally = s.tally ∧ t.diag = s.diag ∧ t.irqPend = s.irqPend ∧
      (∀ k < n, t.mem.readFb k = { i := if (fm0Halves bits)[k / p]? = some true then hi else lo, q := 0 })

/-! ### The machine as a whole -/

/-- The state after reset satisfies every invariant, with this hardware's synthesis parameters. Derived: rules R6, R33, R48,
R58; log entry 12 for the memories' form. -/
def Obligations.InvariantsAtReset : Prop :=
  Inv State.reset ∧ State.reset.mem.wf = true ∧ qryHardwired State.reset = true ∧
  decReservedZero State.reset = true ∧ lastCmdLegal State.reset = true ∧ distinctBounded State.reset = true ∧
  State.reset.par = { fbDepth := 8192, idCap := 64 }

/-- Every step keeps the invariants of rule R33 and the facts beside it (`Inv`), whatever is pending. Derived: rules R6, R22,
R23, R33, R44, R110, R178. -/
def Obligations.StepKeepsInvariant : Prop :=
  ∀ s t : State, Inv s → step s = .next t → Inv t

/-- Every step, from a state that no run reaches too, keeps the memories in canonical form, `QRY_CFG.M` and `QRY_CFG.TREXT`
at their hardwired zeros, the undefined bits of `DEC_LAST` at 0, `LAST_CMD` a legal kind, and `T_DISTINCT` at most
`ID_CAP`. Derived: rules R26, R31, R48, R161; log entry 12. -/
def Obligations.StepKeepsRegisterForms : Prop :=
  ∀ s t : State, step s = .next t →
    (s.mem.wf = true → t.mem.wf = true) ∧
    (qryHardwired s = true → qryHardwired t = true) ∧
    (decReservedZero s = true → decReservedZero t = true) ∧
    (lastCmdLegal s = true → lastCmdLegal t = true) ∧
    (distinctBounded s = true → distinctBounded t = true)

/-- The configuration is constant while the block runs: only `RESET` changes it; and no instruction changes the synthesis
parameters, which are fixed per instance. Derived: rules R6, R44, R93. -/
def Obligations.ConfigConstantWhileRunning : Prop :=
  (∀ (i : Instr) (s t : State), s.rdr.rstate ≠ .done → i ≠ .reset → exec i s = .next t → t.cfg = s.cfg) ∧
  (∀ (i : Instr) (s t : State), exec i s = .next t → t.par = s.par)

/-- A pending bit is cleared only by `RESET` or by a host write of 1 to it. Derived: rules R53, R320, R360. -/
def Obligations.PendingBitsStay : Prop :=
  ∀ (i : Instr) (s t : State) (k : Nat), exec i s = .next t → i ≠ .reset → s.irqPend.getLsbD k = true →
    t.irqPend.getLsbD k = true ∨
    ∃ data : BitVec 32, data.getLsbD k = true ∧
      (i = .irqPendW1C data ∨ i = .busWrite 0x010 data ∨ i = .busWriteRead 0x010 data)

/-- The slot counter of a running block, rule R263(a): a sample leaves it, takes one off it, or, when it stood at 1, loads a
new round's slots. Derived from rules R243 and R259. -/
def Obligations.SlotCounterRule : Prop :=
  ∀ (idx : BitVec 32) (i q : BitVec 16) (s t : State), Inv s → s.rdr.rstate ≠ .done →
    exec (.sample idx i q) s = .next t →
    t.rdr.slotsRem = s.rdr.slotsRem ∨
    t.rdr.slotsRem.toNat + 1 = s.rdr.slotsRem.toNat ∨
    (s.rdr.slotsRem = 1 ∧ t.rdr.slotsRem.toNat = 2 ^ s.cfg.rdrQ.toNat)

/-- At most one Command is outstanding: an instruction emits at most one Command, only when none is outstanding or as that
one's `TX_DONE` arrives, and then the block is busy transmitting; and once it is busy, only `TX_DONE` or `RESET` ends that.
Derived: rules R33(d), R241, R253, R263(e), R360. -/
def Obligations.OneCommandAtATime : Prop :=
  ∀ (i : Instr) (s t : State), Inv s → exec i s = .next t →
    (∃ new : List Command, commandsOf t.outs = commandsOf s.outs ++ new ∧ new.length ≤ 1 ∧
      (new ≠ [] → t.rdr.txBusy = true ∧ (s.rdr.txBusy = false ∨ i = .txDone))) ∧
    (s.rdr.txBusy = true → t.rdr.txBusy = true ∨ i = .txDone ∨ i = .reset)

/-- No RN16 is acknowledged twice in one round, rule R263(c): while the block runs and is not reset, an emitted `ACK` carries a
handle whose bit was clear and now is set, and a handle's bit is cleared only by the sample that ends the round's last slot
(it counts `T_ROUNDS`). Derived from rules R84, R243, R252, R259 and R260. -/
def Obligations.NoHandleAcknowledgedTwice : Prop :=
  ∀ (i : Instr) (s t : State), Inv s → s.mem.wf = true → s.rdr.rstate ≠ .done → i ≠ .reset → exec i s = .next t →
    (∀ rn : BitVec 16, s.mem.readHb rn = true → t.mem.readHb rn = true ∨
      ((∃ idx a b, i = .sample idx a b) ∧ s.rdr.slotsRem = 1 ∧ t.tally.tRounds = s.tally.tRounds + 1)) ∧
    (∀ c : Command, commandsOf t.outs = commandsOf s.outs ++ [c] → c.kind = 4 →
      s.mem.readHb (c.word.extractLsb' 0 16) = false ∧ t.mem.readHb (c.word.extractLsb' 0 16) = true)

/-- While the block stays in `DONE`, its tally, identifiers, counters, latches and session registers keep their values.
Derived: rules R90, R171, R299. -/
def Obligations.DoneIsASnapshot : Prop :=
  ∀ (i : Instr) (s t : State), i ≠ .reset → Inv s → s.rdr.rstate = .done →
    exec i s = .next t → t.rdr.rstate = .done →
    t.rdr = s.rdr ∧ t.gate = s.gate ∧ t.tally = s.tally ∧ t.diag = s.diag ∧ t.dec = s.dec ∧ t.mem = s.mem ∧
      t.lastIdx = s.lastIdx ∧ t.haveLast = s.haveLast

/-- The transitions of `RSTATE` over one instruction, rule R240: no other transition exists. Derived: the table's conditions are
the statements of the single events; `Inv` rules out states that no run reaches. -/
def Obligations.ReaderTransitions : Prop :=
  ∀ (i : Instr) (s t : State), Inv s → exec i s = .next t →
    t.rdr.rstate = s.rdr.rstate ∨
    (i = .reset ∧ t.rdr.rstate = .done) ∨
    (((∃ r, i = .ctrlStart r) ∨ ∃ d, i = .busWrite 0x008 d ∨ i = .busWriteRead 0x008 d) ∧ s.rdr.rstate = .done ∧
      validate s.par s.cfg = 0 ∧ (t.rdr.rstate = .roundStart ∨ t.rdr.rstate = .awaitSlotReply)) ∨
    (i = .txDone ∧ s.rdr.rstate = .roundStart ∧
      ((s.rdr.stopReq = true ∧ t.rdr.rstate = .done) ∨ (s.rdr.stopReq = false ∧ t.rdr.rstate = .awaitSlotReply))) ∨
    ((∃ idx a q, i = .sample idx a q) ∧ listening s = true ∧
      ((s.rdr.rstate = .awaitSlotReply ∧
          (t.rdr.rstate = .ackSequence ∨ t.rdr.rstate = .roundStart ∨ t.rdr.rstate = .done)) ∨
        (s.rdr.rstate = .ackSequence ∧
          (t.rdr.rstate = .awaitSlotReply ∨ t.rdr.rstate = .roundStart ∨ t.rdr.rstate = .done))))
end

