-- ==== Sys2Proof/Laws/State.lean ====
section
/-! SUPPORT. One lemma per field per update of the state, each true by `rfl`: no later proof unfolds a record update. -/

namespace Sys2Proof.Machine

section
variable (s : State) (c : Cause)
@[simp] theorem raise_par : (raise c s).par = s.par := rfl
@[simp] theorem raise_cfg : (raise c s).cfg = s.cfg := rfl
@[simp] theorem raise_rdr : (raise c s).rdr = s.rdr := rfl
@[simp] theorem raise_gate : (raise c s).gate = s.gate := rfl
@[simp] theorem raise_tally : (raise c s).tally = s.tally := rfl
@[simp] theorem raise_diag : (raise c s).diag = s.diag := rfl
@[simp] theorem raise_dec : (raise c s).dec = s.dec := rfl
@[simp] theorem raise_lastIdx : (raise c s).lastIdx = s.lastIdx := rfl
@[simp] theorem raise_haveLast : (raise c s).haveLast = s.haveLast := rfl
@[simp] theorem raise_cfgErr : (raise c s).cfgErr = s.cfgErr := rfl
@[simp] theorem raise_cfgErrCode : (raise c s).cfgErrCode = s.cfgErrCode := rfl
@[simp] theorem raise_irqPend : (raise c s).irqPend = s.irqPend ||| c.mask := rfl
@[simp] theorem raise_irqEn : (raise c s).irqEn = s.irqEn := rfl
@[simp] theorem raise_mem : (raise c s).mem = s.mem := rfl
@[simp] theorem raise_inputs : (raise c s).inputs = s.inputs := rfl
@[simp] theorem raise_outs : (raise c s).outs = s.outs := rfl
end

section
variable (s : State) (d : BitVec 32)
@[simp] theorem clearPending_par : (clearPending d s).par = s.par := rfl
@[simp] theorem clearPending_cfg : (clearPending d s).cfg = s.cfg := rfl
@[simp] theorem clearPending_rdr : (clearPending d s).rdr = s.rdr := rfl
@[simp] theorem clearPending_gate : (clearPending d s).gate = s.gate := rfl
@[simp] theorem clearPending_tally : (clearPending d s).tally = s.tally := rfl
@[simp] theorem clearPending_diag : (clearPending d s).diag = s.diag := rfl
@[simp] theorem clearPending_dec : (clearPending d s).dec = s.dec := rfl
@[simp] theorem clearPending_lastIdx : (clearPending d s).lastIdx = s.lastIdx := rfl
@[simp] theorem clearPending_haveLast : (clearPending d s).haveLast = s.haveLast := rfl
@[simp] theorem clearPending_cfgErr : (clearPending d s).cfgErr = s.cfgErr := rfl
@[simp] theorem clearPending_cfgErrCode : (clearPending d s).cfgErrCode = s.cfgErrCode := rfl
@[simp] theorem clearPending_irqPend : (clearPending d s).irqPend = s.irqPend &&& ~~~(d.extractLsb' 0 9) := rfl
@[simp] theorem clearPending_irqEn : (clearPending d s).irqEn = s.irqEn := rfl
@[simp] theorem clearPending_mem : (clearPending d s).mem = s.mem := rfl
@[simp] theorem clearPending_inputs : (clearPending d s).inputs = s.inputs := rfl
@[simp] theorem clearPending_outs : (clearPending d s).outs = s.outs := rfl
end

section
variable (s : State) (d : BitVec 32)
@[simp] theorem writeIrqEn_par : (writeIrqEn d s).par = s.par := rfl
@[simp] theorem writeIrqEn_cfg : (writeIrqEn d s).cfg = s.cfg := rfl
@[simp] theorem writeIrqEn_rdr : (writeIrqEn d s).rdr = s.rdr := rfl
@[simp] theorem writeIrqEn_gate : (writeIrqEn d s).gate = s.gate := rfl
@[simp] theorem writeIrqEn_tally : (writeIrqEn d s).tally = s.tally := rfl
@[simp] theorem writeIrqEn_diag : (writeIrqEn d s).diag = s.diag := rfl
@[simp] theorem writeIrqEn_dec : (writeIrqEn d s).dec = s.dec := rfl
@[simp] theorem writeIrqEn_lastIdx : (writeIrqEn d s).lastIdx = s.lastIdx := rfl
@[simp] theorem writeIrqEn_haveLast : (writeIrqEn d s).haveLast = s.haveLast := rfl
@[simp] theorem writeIrqEn_cfgErr : (writeIrqEn d s).cfgErr = s.cfgErr := rfl
@[simp] theorem writeIrqEn_cfgErrCode : (writeIrqEn d s).cfgErrCode = s.cfgErrCode := rfl
@[simp] theorem writeIrqEn_irqPend : (writeIrqEn d s).irqPend = s.irqPend := rfl
@[simp] theorem writeIrqEn_irqEn : (writeIrqEn d s).irqEn = d.extractLsb' 0 9 := rfl
@[simp] theorem writeIrqEn_mem : (writeIrqEn d s).mem = s.mem := rfl
@[simp] theorem writeIrqEn_inputs : (writeIrqEn d s).inputs = s.inputs := rfl
@[simp] theorem writeIrqEn_outs : (writeIrqEn d s).outs = s.outs := rfl
end

section
variable (s : State) (o : Output)
@[simp] theorem emit_par : (emit o s).par = s.par := rfl
@[simp] theorem emit_cfg : (emit o s).cfg = s.cfg := rfl
@[simp] theorem emit_rdr : (emit o s).rdr = s.rdr := rfl
@[simp] theorem emit_gate : (emit o s).gate = s.gate := rfl
@[simp] theorem emit_tally : (emit o s).tally = s.tally := rfl
@[simp] theorem emit_diag : (emit o s).diag = s.diag := rfl
@[simp] theorem emit_dec : (emit o s).dec = s.dec := rfl
@[simp] theorem emit_lastIdx : (emit o s).lastIdx = s.lastIdx := rfl
@[simp] theorem emit_haveLast : (emit o s).haveLast = s.haveLast := rfl
@[simp] theorem emit_cfgErr : (emit o s).cfgErr = s.cfgErr := rfl
@[simp] theorem emit_cfgErrCode : (emit o s).cfgErrCode = s.cfgErrCode := rfl
@[simp] theorem emit_irqPend : (emit o s).irqPend = s.irqPend := rfl
@[simp] theorem emit_irqEn : (emit o s).irqEn = s.irqEn := rfl
@[simp] theorem emit_mem : (emit o s).mem = s.mem := rfl
@[simp] theorem emit_inputs : (emit o s).inputs = s.inputs := rfl
@[simp] theorem emit_outs : (emit o s).outs = s.outs ++ [o] := rfl
end

section
variable (s : State)
@[simp] theorem gateReset_par : (gateReset s).par = s.par := rfl
@[simp] theorem gateReset_cfg : (gateReset s).cfg = s.cfg := rfl
@[simp] theorem gateReset_rdr : (gateReset s).rdr = s.rdr := rfl
@[simp] theorem gateReset_gate : (gateReset s).gate =
    { s.gate with gstate := .idle, gLen := 0, gLastHi := 0, gBelow := 0, gKind := .r2tGap, gStart := 0 } := rfl
@[simp] theorem gateReset_tally : (gateReset s).tally = s.tally := rfl
@[simp] theorem gateReset_diag : (gateReset s).diag = s.diag := rfl
@[simp] theorem gateReset_dec : (gateReset s).dec = s.dec := rfl
@[simp] theorem gateReset_lastIdx : (gateReset s).lastIdx = s.lastIdx := rfl
@[simp] theorem gateReset_haveLast : (gateReset s).haveLast = s.haveLast := rfl
@[simp] theorem gateReset_cfgErr : (gateReset s).cfgErr = s.cfgErr := rfl
@[simp] theorem gateReset_cfgErrCode : (gateReset s).cfgErrCode = s.cfgErrCode := rfl
@[simp] theorem gateReset_irqPend : (gateReset s).irqPend = s.irqPend := rfl
@[simp] theorem gateReset_irqEn : (gateReset s).irqEn = s.irqEn := rfl
@[simp] theorem gateReset_mem : (gateReset s).mem = s.mem := rfl
@[simp] theorem gateReset_inputs : (gateReset s).inputs = s.inputs := rfl
@[simp] theorem gateReset_outs : (gateReset s).outs = s.outs := rfl
end

section
variable (s : State) (r : RState)
@[simp] theorem setRState_par : (setRState r s).par = s.par := rfl
@[simp] theorem setRState_cfg : (setRState r s).cfg = s.cfg := rfl
@[simp] theorem setRState_rdr : (setRState r s).rdr = { s.rdr with rstate := r } := rfl
@[simp] theorem setRState_gate : (setRState r s).gate = s.gate := rfl
@[simp] theorem setRState_tally : (setRState r s).tally = s.tally := rfl
@[simp] theorem setRState_diag : (setRState r s).diag = s.diag := rfl
@[simp] theorem setRState_dec : (setRState r s).dec = s.dec := rfl
@[simp] theorem setRState_lastIdx : (setRState r s).lastIdx = s.lastIdx := rfl
@[simp] theorem setRState_haveLast : (setRState r s).haveLast = s.haveLast := rfl
@[simp] theorem setRState_cfgErr : (setRState r s).cfgErr = s.cfgErr := rfl
@[simp] theorem setRState_cfgErrCode : (setRState r s).cfgErrCode = s.cfgErrCode := rfl
@[simp] theorem setRState_irqPend : (setRState r s).irqPend = s.irqPend := rfl
@[simp] theorem setRState_irqEn : (setRState r s).irqEn = s.irqEn := rfl
@[simp] theorem setRState_mem : (setRState r s).mem = s.mem := rfl
@[simp] theorem setRState_inputs : (setRState r s).inputs = s.inputs := rfl
@[simp] theorem setRState_outs : (setRState r s).outs = s.outs := rfl
end

section
variable (s : State) (k : BitVec 3) (b : List Bool) (p : BitVec 1)
@[simp] theorem issue_par : (issue k b p s).par = s.par := rfl
@[simp] theorem issue_cfg : (issue k b p s).cfg = s.cfg := rfl
@[simp] theorem issue_rdr : (issue k b p s).rdr = { s.rdr with txBusy := true, tWait := 0, lastCmd := k } := rfl
@[simp] theorem issue_gate : (issue k b p s).gate = s.gate := rfl
@[simp] theorem issue_tally : (issue k b p s).tally = s.tally := rfl
@[simp] theorem issue_diag : (issue k b p s).diag = s.diag := rfl
@[simp] theorem issue_dec : (issue k b p s).dec = s.dec := rfl
@[simp] theorem issue_lastIdx : (issue k b p s).lastIdx = s.lastIdx := rfl
@[simp] theorem issue_haveLast : (issue k b p s).haveLast = s.haveLast := rfl
@[simp] theorem issue_cfgErr : (issue k b p s).cfgErr = s.cfgErr := rfl
@[simp] theorem issue_cfgErrCode : (issue k b p s).cfgErrCode = s.cfgErrCode := rfl
@[simp] theorem issue_irqPend : (issue k b p s).irqPend = s.irqPend := rfl
@[simp] theorem issue_irqEn : (issue k b p s).irqEn = s.irqEn := rfl
@[simp] theorem issue_mem : (issue k b p s).mem = s.mem := rfl
@[simp] theorem issue_inputs : (issue k b p s).inputs = s.inputs := rfl
@[simp] theorem issue_outs : (issue k b p s).outs =
    s.outs ++ [.cmd { kind := k, word := BitVec.ofNat 128 (msbFirst b), len := BitVec.ofNat 8 b.length, pre := p, timing := s.cfg.txTiming }] := rfl
end

section
variable (s : State)
@[simp] theorem enterDone_par : (enterDone s).par = s.par := rfl
@[simp] theorem enterDone_cfg : (enterDone s).cfg = s.cfg := rfl
@[simp] theorem enterDone_rdr : (enterDone s).rdr = { s.rdr with rstate := .done, stopReq := false } := rfl
@[simp] theorem enterDone_gate : (enterDone s).gate = (gateReset s).gate := rfl
@[simp] theorem enterDone_tally : (enterDone s).tally = s.tally := rfl
@[simp] theorem enterDone_diag : (enterDone s).diag = s.diag := rfl
@[simp] theorem enterDone_dec : (enterDone s).dec = s.dec := rfl
@[simp] theorem enterDone_lastIdx : (enterDone s).lastIdx = s.lastIdx := rfl
@[simp] theorem enterDone_haveLast : (enterDone s).haveLast = s.haveLast := rfl
@[simp] theorem enterDone_cfgErr : (enterDone s).cfgErr = s.cfgErr := rfl
@[simp] theorem enterDone_cfgErrCode : (enterDone s).cfgErrCode = s.cfgErrCode := rfl
@[simp] theorem enterDone_irqPend : (enterDone s).irqPend = s.irqPend ||| Cause.done.mask := rfl
@[simp] theorem enterDone_irqEn : (enterDone s).irqEn = s.irqEn := rfl
@[simp] theorem enterDone_mem : (enterDone s).mem = s.mem := rfl
@[simp] theorem enterDone_inputs : (enterDone s).inputs = s.inputs := rfl
@[simp] theorem enterDone_outs : (enterDone s).outs = s.outs := rfl
end

section
variable (s : State)
@[simp] theorem roundEnd_par : (roundEnd s).par = s.par := rfl
@[simp] theorem roundEnd_cfg : (roundEnd s).cfg = s.cfg := rfl
@[simp] theorem roundEnd_rdr : (roundEnd s).rdr = s.rdr := rfl
@[simp] theorem roundEnd_gate : (roundEnd s).gate = s.gate := rfl
@[simp] theorem roundEnd_tally : (roundEnd s).tally =
    { s.tally with lSuccess := s.tally.rSuccess, lCollision := s.tally.rCollision, lEmpty := s.tally.rEmpty, tRounds := s.tally.tRounds + 1 } := rfl
@[simp] theorem roundEnd_diag : (roundEnd s).diag = s.diag := rfl
@[simp] theorem roundEnd_dec : (roundEnd s).dec = s.dec := rfl
@[simp] theorem roundEnd_lastIdx : (roundEnd s).lastIdx = s.lastIdx := rfl
@[simp] theorem roundEnd_haveLast : (roundEnd s).haveLast = s.haveLast := rfl
@[simp] theorem roundEnd_cfgErr : (roundEnd s).cfgErr = s.cfgErr := rfl
@[simp] theorem roundEnd_cfgErrCode : (roundEnd s).cfgErrCode = s.cfgErrCode := rfl
@[simp] theorem roundEnd_irqPend : (roundEnd s).irqPend = s.irqPend ||| Cause.roundEnd.mask := rfl
@[simp] theorem roundEnd_irqEn : (roundEnd s).irqEn = s.irqEn := rfl
@[simp] theorem roundEnd_mem : (roundEnd s).mem = s.mem := rfl
@[simp] theorem roundEnd_inputs : (roundEnd s).inputs = s.inputs := rfl
@[simp] theorem roundEnd_outs : (roundEnd s).outs = s.outs := rfl
end

section
variable (s : State)
@[simp] theorem newRound_par : (newRound s).par = s.par := rfl
@[simp] theorem newRound_cfg : (newRound s).cfg = s.cfg := rfl
@[simp] theorem newRound_rdr : (newRound s).rdr =
    { s.rdr with slotsRem := 1#17 <<< s.cfg.rdrQ.toNat, rstate := .roundStart } := rfl
@[simp] theorem newRound_gate : (newRound s).gate = s.gate := rfl
@[simp] theorem newRound_tally : (newRound s).tally =
    { s.tally with rSuccess := 0, rCollision := 0, rEmpty := 0 } := rfl
@[simp] theorem newRound_diag : (newRound s).diag = s.diag := rfl
@[simp] theorem newRound_dec : (newRound s).dec = s.dec := rfl
@[simp] theorem newRound_lastIdx : (newRound s).lastIdx = s.lastIdx := rfl
@[simp] theorem newRound_haveLast : (newRound s).haveLast = s.haveLast := rfl
@[simp] theorem newRound_cfgErr : (newRound s).cfgErr = s.cfgErr := rfl
@[simp] theorem newRound_cfgErrCode : (newRound s).cfgErrCode = s.cfgErrCode := rfl
@[simp] theorem newRound_irqPend : (newRound s).irqPend = s.irqPend := rfl
@[simp] theorem newRound_irqEn : (newRound s).irqEn = s.irqEn := rfl
@[simp] theorem newRound_mem : (newRound s).mem = s.mem.clearHb := rfl
@[simp] theorem newRound_inputs : (newRound s).inputs = s.inputs := rfl
@[simp] theorem newRound_outs : (newRound s).outs = s.outs := rfl
end

section
variable (s : State) (d : Decoded)
@[simp] theorem latchLast_par : (latchLast d s).par = s.par := rfl
@[simp] theorem latchLast_cfg : (latchLast d s).cfg = s.cfg := rfl
@[simp] theorem latchLast_rdr : (latchLast d s).rdr = s.rdr := rfl
@[simp] theorem latchLast_gate : (latchLast d s).gate = s.gate := rfl
@[simp] theorem latchLast_tally : (latchLast d s).tally = s.tally := rfl
@[simp] theorem latchLast_diag : (latchLast d s).diag = s.diag := rfl
@[simp] theorem latchLast_dec : (latchLast d s).dec =
    { last := d.latch, lastT := d.latchT, lastRn := d.latchRn } := rfl
@[simp] theorem latchLast_lastIdx : (latchLast d s).lastIdx = s.lastIdx := rfl
@[simp] theorem latchLast_haveLast : (latchLast d s).haveLast = s.haveLast := rfl
@[simp] theorem latchLast_cfgErr : (latchLast d s).cfgErr = s.cfgErr := rfl
@[simp] theorem latchLast_cfgErrCode : (latchLast d s).cfgErrCode = s.cfgErrCode := rfl
@[simp] theorem latchLast_irqPend : (latchLast d s).irqPend = s.irqPend := rfl
@[simp] theorem latchLast_irqEn : (latchLast d s).irqEn = s.irqEn := rfl
@[simp] theorem latchLast_mem : (latchLast d s).mem = s.mem := rfl
@[simp] theorem latchLast_inputs : (latchLast d s).inputs = s.inputs := rfl
@[simp] theorem latchLast_outs : (latchLast d s).outs = s.outs := rfl
end

section
variable (s : State)
@[simp] theorem startQuery_par : (startQuery s).par = s.par := rfl
@[simp] theorem startQuery_cfg : (startQuery s).cfg = s.cfg := rfl
@[simp] theorem startQuery_rdr : (startQuery s).rdr =
    { s.rdr with roundNo := s.rdr.roundNo + 1, txBusy := true, tWait := 0, lastCmd := 1, rstate := .awaitSlotReply } := rfl
@[simp] theorem startQuery_gate : (startQuery s).gate = s.gate := rfl
@[simp] theorem startQuery_tally : (startQuery s).tally = s.tally := rfl
@[simp] theorem startQuery_diag : (startQuery s).diag = s.diag := rfl
@[simp] theorem startQuery_dec : (startQuery s).dec = s.dec := rfl
@[simp] theorem startQuery_lastIdx : (startQuery s).lastIdx = s.lastIdx := rfl
@[simp] theorem startQuery_haveLast : (startQuery s).haveLast = s.haveLast := rfl
@[simp] theorem startQuery_cfgErr : (startQuery s).cfgErr = s.cfgErr := rfl
@[simp] theorem startQuery_cfgErrCode : (startQuery s).cfgErrCode = s.cfgErrCode := rfl
@[simp] theorem startQuery_irqPend : (startQuery s).irqPend = s.irqPend := rfl
@[simp] theorem startQuery_irqEn : (startQuery s).irqEn = s.irqEn := rfl
@[simp] theorem startQuery_mem : (startQuery s).mem = s.mem := rfl
@[simp] theorem startQuery_inputs : (startQuery s).inputs = s.inputs := rfl
end

section
variable (s : State)
@[simp] theorem startSelect_par : (startSelect s).par = s.par := rfl
@[simp] theorem startSelect_cfg : (startSelect s).cfg = s.cfg := rfl
@[simp] theorem startSelect_rdr : (startSelect s).rdr =
    { s.rdr with txBusy := true, tWait := 0, lastCmd := 5, rstate := .roundStart } := rfl
@[simp] theorem startSelect_gate : (startSelect s).gate = s.gate := rfl
@[simp] theorem startSelect_tally : (startSelect s).tally = s.tally := rfl
@[simp] theorem startSelect_diag : (startSelect s).diag = s.diag := rfl
@[simp] theorem startSelect_dec : (startSelect s).dec = s.dec := rfl
@[simp] theorem startSelect_lastIdx : (startSelect s).lastIdx = s.lastIdx := rfl
@[simp] theorem startSelect_haveLast : (startSelect s).haveLast = s.haveLast := rfl
@[simp] theorem startSelect_cfgErr : (startSelect s).cfgErr = s.cfgErr := rfl
@[simp] theorem startSelect_cfgErrCode : (startSelect s).cfgErrCode = s.cfgErrCode := rfl
@[simp] theorem startSelect_irqPend : (startSelect s).irqPend = s.irqPend := rfl
@[simp] theorem startSelect_irqEn : (startSelect s).irqEn = s.irqEn := rfl
@[simp] theorem startSelect_mem : (startSelect s).mem = s.mem := rfl
@[simp] theorem startSelect_inputs : (startSelect s).inputs = s.inputs := rfl
end

section
variable (s : State) (n : BitVec 2)
@[simp] theorem emitQueryRep_par : (emitQueryRep n s).par = s.par := rfl
@[simp] theorem emitQueryRep_cfg : (emitQueryRep n s).cfg = s.cfg := rfl
@[simp] theorem emitQueryRep_rdr : (emitQueryRep n s).rdr =
    { s.rdr with txBusy := true, tWait := 0, lastCmd := 2, rstate := .awaitSlotReply } := rfl
@[simp] theorem emitQueryRep_gate : (emitQueryRep n s).gate = s.gate := rfl
@[simp] theorem emitQueryRep_tally : (emitQueryRep n s).tally = s.tally := rfl
@[simp] theorem emitQueryRep_diag : (emitQueryRep n s).diag = s.diag := rfl
@[simp] theorem emitQueryRep_dec : (emitQueryRep n s).dec = s.dec := rfl
@[simp] theorem emitQueryRep_lastIdx : (emitQueryRep n s).lastIdx = s.lastIdx := rfl
@[simp] theorem emitQueryRep_haveLast : (emitQueryRep n s).haveLast = s.haveLast := rfl
@[simp] theorem emitQueryRep_cfgErr : (emitQueryRep n s).cfgErr = s.cfgErr := rfl
@[simp] theorem emitQueryRep_cfgErrCode : (emitQueryRep n s).cfgErrCode = s.cfgErrCode := rfl
@[simp] theorem emitQueryRep_irqPend : (emitQueryRep n s).irqPend = s.irqPend := rfl
@[simp] theorem emitQueryRep_irqEn : (emitQueryRep n s).irqEn = s.irqEn := rfl
@[simp] theorem emitQueryRep_mem : (emitQueryRep n s).mem = s.mem := rfl
@[simp] theorem emitQueryRep_inputs : (emitQueryRep n s).inputs = s.inputs := rfl
end

section
variable (s : State) (n : BitVec 16)
@[simp] theorem emitAck_par : (emitAck n s).par = s.par := rfl
@[simp] theorem emitAck_cfg : (emitAck n s).cfg = s.cfg := rfl
@[simp] theorem emitAck_rdr : (emitAck n s).rdr =
    { s.rdr with txBusy := true, tWait := 0, lastCmd := 4, lastHandle := n, rstate := .ackSequence } := rfl
@[simp] theorem emitAck_gate : (emitAck n s).gate = s.gate := rfl
@[simp] theorem emitAck_tally : (emitAck n s).tally = s.tally := rfl
@[simp] theorem emitAck_diag : (emitAck n s).diag = s.diag := rfl
@[simp] theorem emitAck_dec : (emitAck n s).dec = s.dec := rfl
@[simp] theorem emitAck_lastIdx : (emitAck n s).lastIdx = s.lastIdx := rfl
@[simp] theorem emitAck_haveLast : (emitAck n s).haveLast = s.haveLast := rfl
@[simp] theorem emitAck_cfgErr : (emitAck n s).cfgErr = s.cfgErr := rfl
@[simp] theorem emitAck_cfgErrCode : (emitAck n s).cfgErrCode = s.cfgErrCode := rfl
@[simp] theorem emitAck_irqPend : (emitAck n s).irqPend = s.irqPend := rfl
@[simp] theorem emitAck_irqEn : (emitAck n s).irqEn = s.irqEn := rfl
@[simp] theorem emitAck_mem : (emitAck n s).mem = s.mem.setHb n := rfl
@[simp] theorem emitAck_inputs : (emitAck n s).inputs = s.inputs := rfl
end

section
variable (s : State) (dr : BitVec 1) (sel session : BitVec 2) (target : BitVec 1) (q : BitVec 4) (crc : BitVec 5)
@[simp] theorem emitQuery_par : (emitQuery dr sel session target q crc s).par = s.par := rfl
@[simp] theorem emitQuery_cfg : (emitQuery dr sel session target q crc s).cfg = s.cfg := rfl
@[simp] theorem emitQuery_rdr : (emitQuery dr sel session target q crc s).rdr =
    { s.rdr with roundNo := s.rdr.roundNo + 1, txBusy := true, tWait := 0, lastCmd := 1, rstate := .awaitSlotReply } := rfl
@[simp] theorem emitQuery_gate : (emitQuery dr sel session target q crc s).gate = s.gate := rfl
@[simp] theorem emitQuery_tally : (emitQuery dr sel session target q crc s).tally = s.tally := rfl
@[simp] theorem emitQuery_diag : (emitQuery dr sel session target q crc s).diag = s.diag := rfl
@[simp] theorem emitQuery_dec : (emitQuery dr sel session target q crc s).dec = s.dec := rfl
@[simp] theorem emitQuery_lastIdx : (emitQuery dr sel session target q crc s).lastIdx = s.lastIdx := rfl
@[simp] theorem emitQuery_haveLast : (emitQuery dr sel session target q crc s).haveLast = s.haveLast := rfl
@[simp] theorem emitQuery_cfgErr : (emitQuery dr sel session target q crc s).cfgErr = s.cfgErr := rfl
@[simp] theorem emitQuery_cfgErrCode : (emitQuery dr sel session target q crc s).cfgErrCode = s.cfgErrCode := rfl
@[simp] theorem emitQuery_irqPend : (emitQuery dr sel session target q crc s).irqPend = s.irqPend := rfl
@[simp] theorem emitQuery_irqEn : (emitQuery dr sel session target q crc s).irqEn = s.irqEn := rfl
@[simp] theorem emitQuery_mem : (emitQuery dr sel session target q crc s).mem = s.mem := rfl
@[simp] theorem emitQuery_inputs : (emitQuery dr sel session target q crc s).inputs = s.inputs := rfl
end

section
variable (s : State) (target action : BitVec 3) (memBank : BitVec 2) (pointer : BitVec 7) (length : BitVec 6)
    (mask : BitVec 32) (trunc : BitVec 1) (crc : BitVec 16)
@[simp] theorem emitSelect_par : (emitSelect target action memBank pointer length mask trunc crc s).par = s.par := rfl
@[simp] theorem emitSelect_cfg : (emitSelect target action memBank pointer length mask trunc crc s).cfg = s.cfg := rfl
@[simp] theorem emitSelect_rdr : (emitSelect target action memBank pointer length mask trunc crc s).rdr =
    { s.rdr with txBusy := true, tWait := 0, lastCmd := 5, rstate := .roundStart } := rfl
@[simp] theorem emitSelect_gate : (emitSelect target action memBank pointer length mask trunc crc s).gate =
    s.gate := rfl
@[simp] theorem emitSelect_tally : (emitSelect target action memBank pointer length mask trunc crc s).tally =
    s.tally := rfl
@[simp] theorem emitSelect_diag : (emitSelect target action memBank pointer length mask trunc crc s).diag =
    s.diag := rfl
@[simp] theorem emitSelect_dec : (emitSelect target action memBank pointer length mask trunc crc s).dec = s.dec := rfl
@[simp] theorem emitSelect_lastIdx : (emitSelect target action memBank pointer length mask trunc crc s).lastIdx =
    s.lastIdx := rfl
@[simp] theorem emitSelect_haveLast : (emitSelect target action memBank pointer length mask trunc crc s).haveLast =
    s.haveLast := rfl
@[simp] theorem emitSelect_cfgErr : (emitSelect target action memBank pointer length mask trunc crc s).cfgErr =
    s.cfgErr := rfl
@[simp] theorem emitSelect_cfgErrCode : (emitSelect target action memBank pointer length mask trunc crc s).cfgErrCode =
    s.cfgErrCode := rfl
@[simp] theorem emitSelect_irqPend : (emitSelect target action memBank pointer length mask trunc crc s).irqPend =
    s.irqPend := rfl
@[simp] theorem emitSelect_irqEn : (emitSelect target action memBank pointer length mask trunc crc s).irqEn =
    s.irqEn := rfl
@[simp] theorem emitSelect_mem : (emitSelect target action memBank pointer length mask trunc crc s).mem = s.mem := rfl
@[simp] theorem emitSelect_inputs : (emitSelect target action memBank pointer length mask trunc crc s).inputs =
    s.inputs := rfl
end

section
variable (s : State) (idx : BitVec 32) (x : Sample)
@[simp] theorem openFrame_par : (openFrame idx x s).par = s.par := rfl
@[simp] theorem openFrame_cfg : (openFrame idx x s).cfg = s.cfg := rfl
@[simp] theorem openFrame_rdr : (openFrame idx x s).rdr = s.rdr := rfl
@[simp] theorem openFrame_gate : (openFrame idx x s).gate =
    { s.gate with gLen := 1, gLastHi := 1, gBelow := 0, gKind := openingKind s, gStart := idx, gstate := .inFrame } := rfl
@[simp] theorem openFrame_tally : (openFrame idx x s).tally = s.tally := rfl
@[simp] theorem openFrame_diag : (openFrame idx x s).diag = s.diag := rfl
@[simp] theorem openFrame_dec : (openFrame idx x s).dec = s.dec := rfl
@[simp] theorem openFrame_lastIdx : (openFrame idx x s).lastIdx = s.lastIdx := rfl
@[simp] theorem openFrame_haveLast : (openFrame idx x s).haveLast = s.haveLast := rfl
@[simp] theorem openFrame_cfgErr : (openFrame idx x s).cfgErr = s.cfgErr := rfl
@[simp] theorem openFrame_cfgErrCode : (openFrame idx x s).cfgErrCode = s.cfgErrCode := rfl
@[simp] theorem openFrame_irqPend : (openFrame idx x s).irqPend = s.irqPend := rfl
@[simp] theorem openFrame_irqEn : (openFrame idx x s).irqEn = s.irqEn := rfl
@[simp] theorem openFrame_mem : (openFrame idx x s).mem = s.mem.writeFb 0 x := rfl
@[simp] theorem openFrame_inputs : (openFrame idx x s).inputs = s.inputs := rfl
@[simp] theorem openFrame_outs : (openFrame idx x s).outs = s.outs := rfl
end

section
variable (s : State) (x : Sample) (en : Nat)
@[simp] theorem extendFrame_par : (extendFrame x en s).par = s.par := rfl
@[simp] theorem extendFrame_cfg : (extendFrame x en s).cfg = s.cfg := rfl
@[simp] theorem extendFrame_rdr : (extendFrame x en s).rdr = s.rdr := rfl
@[simp] theorem extendFrame_tally : (extendFrame x en s).tally = s.tally := rfl
@[simp] theorem extendFrame_diag : (extendFrame x en s).diag = s.diag := rfl
@[simp] theorem extendFrame_dec : (extendFrame x en s).dec = s.dec := rfl
@[simp] theorem extendFrame_lastIdx : (extendFrame x en s).lastIdx = s.lastIdx := rfl
@[simp] theorem extendFrame_haveLast : (extendFrame x en s).haveLast = s.haveLast := rfl
@[simp] theorem extendFrame_cfgErr : (extendFrame x en s).cfgErr = s.cfgErr := rfl
@[simp] theorem extendFrame_cfgErrCode : (extendFrame x en s).cfgErrCode = s.cfgErrCode := rfl
@[simp] theorem extendFrame_irqPend : (extendFrame x en s).irqPend = s.irqPend := rfl
@[simp] theorem extendFrame_irqEn : (extendFrame x en s).irqEn = s.irqEn := rfl
@[simp] theorem extendFrame_mem : (extendFrame x en s).mem = s.mem.writeFb s.gate.gLen.toNat x := rfl
@[simp] theorem extendFrame_inputs : (extendFrame x en s).inputs = s.inputs := rfl
@[simp] theorem extendFrame_outs : (extendFrame x en s).outs = s.outs := rfl
end

section
variable (s : State)
@[simp] theorem startClear_par : (startClear s).par = s.par := rfl
@[simp] theorem startClear_cfg : (startClear s).cfg = s.cfg := rfl
@[simp] theorem startClear_rdr : (startClear s).rdr =
    { s.rdr with stopReq := false, roundNo := 0, slotsRem := 0, tWait := 0, txBusy := false, lastHandle := 0, lastCmd := 0 } := rfl
@[simp] theorem startClear_gate : (startClear s).gate =
    { gstate := .idle, nf := s.cfg.nfInit, gLen := 0, gLastHi := 0, gBelow := 0, gKind := .r2tGap, gStart := 0 } := rfl
@[simp] theorem startClear_tally : (startClear s).tally =
    { tSuccess := 0, tCollision := 0, tEmpty := 0, tRounds := 0, tDistinct := 0, rSuccess := 0, rCollision := 0, rEmpty := 0, lSuccess := 0, lCollision := 0, lEmpty := 0 } := rfl
@[simp] theorem startClear_diag : (startClear s).diag =
    { discontCnt := 0, blipCnt := 0, gapCnt := 0, forcedCnt := 0, hrepCnt := 0, timeoutCnt := 0 } := rfl
@[simp] theorem startClear_dec : (startClear s).dec = { last := 0, lastT := 0, lastRn := 0 } := rfl
@[simp] theorem startClear_lastIdx : (startClear s).lastIdx = 0 := rfl
@[simp] theorem startClear_haveLast : (startClear s).haveLast = false := rfl
@[simp] theorem startClear_cfgErr : (startClear s).cfgErr = false := rfl
@[simp] theorem startClear_cfgErrCode : (startClear s).cfgErrCode = 0 := rfl
@[simp] theorem startClear_irqPend : (startClear s).irqPend = s.irqPend := rfl
@[simp] theorem startClear_irqEn : (startClear s).irqEn = s.irqEn := rfl
@[simp] theorem startClear_mem : (startClear s).mem = s.mem.clearIds := rfl
@[simp] theorem startClear_inputs : (startClear s).inputs = s.inputs := rfl
@[simp] theorem startClear_outs : (startClear s).outs = s.outs := rfl
end

end Sys2Proof.Machine
end

