-- ==== Sys2Proof/Laws/Memory.lean ====
section
/-! SUPPORT. The laws of the internal memories: a read after a write, and that every operation keeps the canonical
form `Memory.wf`. -/

namespace Sys2Proof.Machine

section
variable {α : Type} [DecidableEq α]

/-- A write is read back at its index and changes no other index. -/
theorem Store.read_write (d : α) (l : List (Nat × α)) (h : Store.wf d l = true) (a : Nat) (v : α) (b : Nat) :
    Store.read d (Store.write d l a v) b = if b = a then v else Store.read d l b := by
  have below : ∀ (r : List (Nat × α)) (a : Nat), (∀ p ∈ r, a < p.1) → Store.read d r a = d := by
    intro r a
    induction r with
    | nil => intro _; rfl
    | cons p r ih =>
      intro h
      have hp := h p (by simp)
      simp only [Store.read, show a ≠ p.1 by omega, if_false]
      exact ih fun q hq => h q (by simp [hq])
  induction l with
  | nil => simp only [Store.write]; split <;> simp_all [Store.read]
  | cons p rest ih =>
    obtain ⟨k, x⟩ := p
    simp only [Store.wf, Bool.and_eq_true, List.all_eq_true, decide_eq_true_eq] at h
    obtain ⟨⟨-, hk⟩, hr⟩ := h
    have ih := ih hr
    simp only [Store.write]
    split
    · have hb : Store.read d ((k, x) :: rest) a = d := by
        apply below
        intro q hq
        simp only [List.mem_cons] at hq
        rcases hq with rfl | hq
        · assumption
        · have := hk q hq; omega
      split
      · by_cases hba : b = a
        · simp_all
        · simp [hba]
      · simp only [Store.read]
    · split
      · subst a
        have hb := below rest k hk
        split
        · by_cases hba : b = k
          · simp_all
          · simp [hba, Store.read]
        · by_cases hba : b = k <;> simp [hba, Store.read]
      · simp only [Store.read, ih]
        by_cases hbk : b = k
        · simp [hbk, show k ≠ a by omega]
        · simp [hbk]

/-- What a write can list: the written pair or a pair listed before. -/
theorem Store.mem_write (d : α) (l : List (Nat × α)) (a : Nat) (v : α) (p : Nat × α)
    (h : p ∈ Store.write d l a v) : p = (a, v) ∨ p ∈ l := by
  induction l with
  | nil => simp only [Store.write] at h; split at h <;> simp_all
  | cons q rest ih =>
    obtain ⟨k, x⟩ := q
    simp only [Store.write] at h
    split at h
    · split at h
      · exact .inr h
      · simpa using h
    · split at h
      · split at h
        · exact .inr (List.mem_cons_of_mem _ h)
        · rcases List.mem_cons.1 h with h | h
          · exact .inl h
          · exact .inr (List.mem_cons_of_mem _ h)
      · rcases List.mem_cons.1 h with h | h
        · exact .inr (by simp [h])
        · rcases ih h with h | h
          · exact .inl h
          · exact .inr (List.mem_cons_of_mem _ h)

/-- A write keeps the canonical form. -/
theorem Store.wf_write (d : α) (l : List (Nat × α)) (h : Store.wf d l = true) (a : Nat) (v : α) :
    Store.wf d (Store.write d l a v) = true := by
  induction l with
  | nil => simp only [Store.write]; split <;> simp_all [Store.wf]
  | cons p rest ih =>
    obtain ⟨k, x⟩ := p
    have h0 := h
    simp only [Store.wf, Bool.and_eq_true, List.all_eq_true, decide_eq_true_eq] at h
    obtain ⟨⟨hx, hk⟩, hr⟩ := h
    simp only [Store.write]
    split
    · split
      · exact h0
      · rename_i hak hv
        simp only [Store.wf, Bool.and_eq_true, List.all_eq_true, decide_eq_true_eq]
        refine ⟨⟨by simpa using hv, ?_⟩, ⟨hx, hk⟩, hr⟩
        intro q hq
        rcases List.mem_cons.1 hq with rfl | hq
        · exact hak
        · have := hk q hq; omega
    · split
      · split
        · exact hr
        · rename_i hv
          simp only [Store.wf, Bool.and_eq_true, List.all_eq_true, decide_eq_true_eq]
          exact ⟨⟨by simpa using hv, by subst a; exact hk⟩, hr⟩
      · simp only [Store.wf, Bool.and_eq_true, List.all_eq_true, decide_eq_true_eq]
        refine ⟨⟨hx, ?_⟩, ih hr⟩
        intro q hq
        rcases Store.mem_write d rest a v q hq with rfl | hq
        · simp only; omega
        · exact hk q hq

end

section
variable (m : Memory)

theorem Memory.wf_iff : m.wf = true ↔
    Store.wf Sample.unwritten m.fb = true ∧ Store.wf false m.hb = true ∧ Store.wf IdEntry.unwritten m.ids = true := by
  simp [Memory.wf, and_assoc]

/-- Every memory operation keeps the canonical form. -/
theorem Memory.wf_writeFb (h : m.wf = true) (k : Nat) (v : Sample) : (m.writeFb k v).wf = true := by
  rw [Memory.wf_iff] at *; exact ⟨Store.wf_write _ _ h.1 k v, h.2⟩

theorem Memory.wf_setHb (h : m.wf = true) (rn : BitVec 16) : (m.setHb rn).wf = true := by
  rw [Memory.wf_iff] at *; exact ⟨h.1, Store.wf_write _ _ h.2.1 _ _, h.2.2⟩

theorem Memory.wf_clearHb (h : m.wf = true) : m.clearHb.wf = true := by
  rw [Memory.wf_iff] at *; exact ⟨h.1, rfl, h.2.2⟩

theorem Memory.wf_writeId (h : m.wf = true) (k : Nat) (e : IdEntry) : (m.writeId k e).wf = true := by
  rw [Memory.wf_iff] at *; exact ⟨h.1, h.2.1, Store.wf_write _ _ h.2.2 _ _⟩

theorem Memory.wf_clearIds (h : m.wf = true) : m.clearIds.wf = true := by
  rw [Memory.wf_iff] at *; exact ⟨h.1, h.2.1, rfl⟩

/-- The memories after reset are in canonical form. -/
theorem Memory.wf_reset : State.reset.mem.wf = true := rfl

/-- A frame-buffer entry after a frame-buffer write. -/
theorem Memory.readFb_writeFb (h : m.wf = true) (k : Nat) (v : Sample) (j : Nat) :
    (m.writeFb k v).readFb j = if j = k then v else m.readFb j :=
  Store.read_write _ _ ((Memory.wf_iff m).1 h).1 k v j

/-- A handle bit after a handle is set. -/
theorem Memory.readHb_setHb (h : m.wf = true) (rn r : BitVec 16) :
    (m.setHb rn).readHb r = if r = rn then true else m.readHb r := by
  rw [Memory.readHb, Memory.setHb, Store.read_write _ _ ((Memory.wf_iff m).1 h).2.1]
  simp only [BitVec.toNat_inj]; rfl

/-- An identifier entry after an identifier is stored. -/
theorem Memory.readId_writeId (h : m.wf = true) (k : Nat) (e : IdEntry) (j : Nat) :
    (m.writeId k e).readId j = if j = k then e else m.readId j :=
  Store.read_write _ _ ((Memory.wf_iff m).1 h).2.2 k e j

@[simp] theorem Memory.setHb_fb (rn : BitVec 16) : (m.setHb rn).fb = m.fb := rfl
@[simp] theorem Memory.setHb_ids (rn : BitVec 16) : (m.setHb rn).ids = m.ids := rfl
@[simp] theorem Memory.clearHb_fb : m.clearHb.fb = m.fb := rfl
@[simp] theorem Memory.clearHb_ids : m.clearHb.ids = m.ids := rfl
@[simp] theorem Memory.writeFb_hb (k : Nat) (v : Sample) : (m.writeFb k v).hb = m.hb := rfl
@[simp] theorem Memory.writeFb_ids (k : Nat) (v : Sample) : (m.writeFb k v).ids = m.ids := rfl
@[simp] theorem Memory.writeId_fb (k : Nat) (e : IdEntry) : (m.writeId k e).fb = m.fb := rfl
@[simp] theorem Memory.writeId_hb (k : Nat) (e : IdEntry) : (m.writeId k e).hb = m.hb := rfl
@[simp] theorem Memory.clearIds_fb : m.clearIds.fb = m.fb := rfl
@[simp] theorem Memory.clearIds_hb : m.clearIds.hb = m.hb := rfl
@[simp] theorem Memory.readHb_clearHb (r : BitVec 16) : m.clearHb.readHb r = false := rfl
@[simp] theorem Memory.readFb_setHb (rn : BitVec 16) (k : Nat) : (m.setHb rn).readFb k = m.readFb k := rfl
@[simp] theorem Memory.readFb_clearHb (k : Nat) : m.clearHb.readFb k = m.readFb k := rfl
@[simp] theorem Memory.readFb_writeId (j k : Nat) (e : IdEntry) : (m.writeId j e).readFb k = m.readFb k := rfl
@[simp] theorem Memory.readFb_clearIds (k : Nat) : m.clearIds.readFb k = m.readFb k := rfl
@[simp] theorem Memory.readHb_writeFb (k : Nat) (v : Sample) (r : BitVec 16) :
    (m.writeFb k v).readHb r = m.readHb r := rfl
@[simp] theorem Memory.readHb_writeId (k : Nat) (e : IdEntry) (r : BitVec 16) :
    (m.writeId k e).readHb r = m.readHb r := rfl
@[simp] theorem Memory.readHb_clearIds (r : BitVec 16) : m.clearIds.readHb r = m.readHb r := rfl
@[simp] theorem Memory.readId_writeFb (j : Nat) (v : Sample) (k : Nat) : (m.writeFb j v).readId k = m.readId k := rfl
@[simp] theorem Memory.readId_setHb (rn : BitVec 16) (k : Nat) : (m.setHb rn).readId k = m.readId k := rfl
@[simp] theorem Memory.readId_clearHb (k : Nat) : m.clearHb.readId k = m.readId k := rfl

end

end Sys2Proof.Machine
end

