-- ==== Sys2Proof/Laws/Reader.lean ====
section
/-! SUPPORT. For each Reader procedure, one lemma that says once everything it can do, and the fields it never changes. -/

namespace Sys2Proof.Machine

variable (s : State)

/-- Everything `ROUND_BEGIN` can do. -/
theorem roundBegin_cases :
    ((s.rdr.stopReq = true ∨ s.cfg.maxRounds.toNat ≤ s.rdr.roundNo.toNat) ∧ roundBegin s = enterDone s) ∨
    (s.rdr.stopReq = false ∧ s.rdr.roundNo.toNat < s.cfg.maxRounds.toNat ∧
      ((s.cfg.selEn = 1 ∧ roundBegin s = startSelect (newRound s)) ∨
       (s.cfg.selEn ≠ 1 ∧ roundBegin s = startQuery (newRound s)))) := by
  unfold roundBegin
  split
  · simp_all
  · split <;> simp_all

/-- The state of a slot that has just been counted (rule R259), before what follows it. -/
def slotCounted (o : SlotOutcome) : State :=
  { s with rdr := { s.rdr with rstate := o.rstate, slotsRem := s.rdr.slotsRem - 1 }, tally := countOutcome o s.tally }

/-- Everything `END_SLOT` can do. -/
theorem endSlot_cases (o : SlotOutcome) :
    (s.rdr.slotsRem - 1 = 0 ∧ endSlot o s = roundBegin (roundEnd (slotCounted s o))) ∨
    (s.rdr.slotsRem - 1 ≠ 0 ∧ s.rdr.stopReq = true ∧ endSlot o s = enterDone (slotCounted s o)) ∨
    (s.rdr.slotsRem - 1 ≠ 0 ∧ s.rdr.stopReq = false ∧
      endSlot o s = emitQueryRep s.cfg.session (slotCounted s o)) := by
  unfold endSlot
  simp only [slotCounted]
  split
  · exact .inl ⟨‹_›, rfl⟩
  · split
    · exact .inr (.inl ⟨‹_›, ‹_›, rfl⟩)
    · exact .inr (.inr ⟨‹_›, by simpa using ‹¬ s.rdr.stopReq = true›, rfl⟩)

/-- Everything `RECORD_ID` can do. -/
theorem recordId_cases (pc : BitVec 16) (epc : BitVec 96) :
    (epcKnown s epc = true ∧ recordId pc epc s = s) ∨
    (epcKnown s epc = false ∧ s.tally.tDistinct.toNat < s.par.idCap ∧ recordId pc epc s = raise .idNew { s with
      mem := s.mem.writeId s.tally.tDistinct.toNat { epc, pc }
      tally := { s.tally with tDistinct := s.tally.tDistinct + 1 } }) ∨
    (epcKnown s epc = false ∧ s.par.idCap ≤ s.tally.tDistinct.toNat ∧ recordId pc epc s = raise .idOvf s) := by
  unfold recordId
  split
  · exact .inl ⟨‹_›, rfl⟩
  · split
    · exact .inr (.inl ⟨by simpa using ‹¬ epcKnown s epc = true›, ‹_›, rfl⟩)
    · exact .inr (.inr ⟨by simpa using ‹¬ epcKnown s epc = true›, by omega, rfl⟩)

/-- Everything `ACK_OR_REFUSE` can do. -/
theorem ackOrRefuse_cases (rn : BitVec 16) :
    (s.mem.readHb rn = true ∧ ackOrRefuse rn s =
      endSlot .collision { s with diag := { s.diag with hrepCnt := s.diag.hrepCnt + 1 } }) ∨
    (s.mem.readHb rn = false ∧ ackOrRefuse rn s = emitAck rn s) := by
  unfold ackOrRefuse; split <;> simp_all

/-- Everything `CLASSIFY` can do. -/
theorem classify_cases (d : Decoded) :
    (s.rdr.rstate = .awaitSlotReply ∧ d.kind = .noReply ∧ classify d s = endSlot .empty s) ∨
    (s.rdr.rstate = .awaitSlotReply ∧ d.kind = .collisionOrNoise ∧ classify d s = endSlot .collision s) ∨
    (s.rdr.rstate = .awaitSlotReply ∧ d.kind = .randomNumber ∧ classify d s = ackOrRefuse d.rn s) ∨
    (s.rdr.rstate = .awaitSlotReply ∧ d.kind = .identifierReply ∧ classify d s = s) ∨
    (s.rdr.rstate = .ackSequence ∧ d.kind = .identifierReply ∧ d.valid = true ∧
      classify d s = endSlot .success (recordId d.pc d.epc s)) ∨
    (s.rdr.rstate = .ackSequence ∧ ¬ (d.kind = .identifierReply ∧ d.valid = true) ∧
      classify d s = endSlot .collision s) ∨
    (s.rdr.rstate ≠ .awaitSlotReply ∧ s.rdr.rstate ≠ .ackSequence ∧ classify d s = s) := by
  unfold classify
  cases h : s.rdr.rstate <;> cases hk : d.kind <;> cases hv : d.valid <;> simp

/-- `CLASSIFY` reads of a Decoded Reply its kind, its validity and the fields that kind has, and no other: what the fields
hold that a kind lacks does not matter (log entry 25). -/
theorem classify_congr (d e : Decoded) (hk : d.kind = e.kind) (hv : d.valid = e.valid)
    (hr : d.kind = .randomNumber → d.rn = e.rn)
    (hi : d.kind = .identifierReply → d.pc = e.pc ∧ d.epc = e.epc) : classify d s = classify e s := by
  rw [classify, classify, ← hk, ← hv]
  cases h : d.kind <;> cases hs : s.rdr.rstate <;> simp_all

/-- `LATCH_LAST` reads of a Decoded Reply its kind, validity, reason and the fields they have, and no other (log entry 25). -/
theorem latchLast_congr (d e : Decoded) (hk : d.kind = e.kind) (hv : d.valid = e.valid) (hn : d.reason = e.reason)
    (ht : d.reason = .decoded ∨ d.reason = .truncated ∨ d.reason = .ambiguityRun → d.t = e.t)
    (hr : d.kind = .randomNumber → d.rn = e.rn) (hi : d.kind = .identifierReply → d.pc = e.pc) :
    latchLast d s = latchLast e s := by
  have hT : d.latchT = e.latchT := by
    rw [Decoded.latchT, Decoded.latchT, ← hn]
    cases h : d.reason <;> simp_all
  have hR : d.latchRn = e.latchRn := by
    rw [Decoded.latchRn, Decoded.latchRn, ← hk]
    cases h : d.kind <;> simp_all
  simp [latchLast, Decoded.latch, hk, hv, hn, hT, hR]

/-- The state in which the slot timer has advanced (rule R255). -/
def ticked : State :=
  { s with rdr := { s.rdr with tWait := BitVec.ofNat 32 (sat32 (s.rdr.tWait.toNat + 1)) } }

/-- Everything `SLOT_TICK` can do. -/
theorem slotTick_cases :
    (s.cfg.tSlot.toNat ≤ (ticked s).rdr.tWait.toNat ∧ s.gate.gstate = .idle ∧ slotTick s =
      classify (.noReply .decoded)
        { ticked s with diag := { s.diag with timeoutCnt := s.diag.timeoutCnt + 1 } }) ∨
    (¬ (s.cfg.tSlot.toNat ≤ (ticked s).rdr.tWait.toNat ∧ s.gate.gstate = .idle) ∧ slotTick s = ticked s) := by
  unfold slotTick
  simp only [ticked]
  split
  · exact .inl ⟨‹_ ∧ _›.1, ‹_ ∧ _›.2, rfl⟩
  · exact .inr ⟨‹_›, rfl⟩

/-- The state after the debug record of a tag-reply frame, if one is asked for (rule R250). -/
def recorded (f : Frame) : State := if s.cfg.dbgCtrl = 1 then emit (.dbg (debugRecord f s)) s else s

/-- Everything `ON_FRAME` can do. -/
theorem onFrame_cases (f : Frame) (d : Decoded) :
    (f.kind = .r2tGap ∧ onFrame f d s = { s with diag := { s.diag with gapCnt := s.diag.gapCnt + 1 } }) ∨
    (f.kind = .tagReply ∧ onFrame f d s = classify d (recorded s f)) := by
  unfold onFrame recorded; cases h : f.kind <;> simp

/-- Everything `TX_DONE` can do. -/
theorem txDone_cases :
    (s.rdr.txBusy = false ∧ txDone s = raise .spurTxd s) ∨
    (s.rdr.txBusy = true ∧ s.rdr.rstate = .roundStart ∧ s.rdr.stopReq = true ∧
      txDone s = enterDone { s with rdr := { s.rdr with txBusy := false } }) ∨
    (s.rdr.txBusy = true ∧ s.rdr.rstate = .roundStart ∧ s.rdr.stopReq = false ∧
      txDone s = startQuery { s with rdr := { s.rdr with txBusy := false } }) ∨
    (s.rdr.txBusy = true ∧ s.rdr.rstate ≠ .roundStart ∧
      txDone s = gateReset { s with rdr := { s.rdr with txBusy := false, tWait := 0 } }) := by
  unfold txDone
  cases hb : s.rdr.txBusy <;> by_cases hr : s.rdr.rstate = .roundStart <;> cases hs : s.rdr.stopReq <;> simp [hr, hs]

end Sys2Proof.Machine
end

