-- ==== Sys2Proof/Laws/Frames.lean ====
section
/-! SUPPORT. The fields that each branching procedure of the Reader, the Gate and the host interface never changes. -/

namespace Sys2Proof.Machine

variable (s : State)

section
variable (o : SlotOutcome)
/-! `slotCounted` changes the session and the tally alone. -/
@[simp] theorem slotCounted_par : (slotCounted s o).par = s.par := rfl
@[simp] theorem slotCounted_cfg : (slotCounted s o).cfg = s.cfg := rfl
@[simp] theorem slotCounted_gate : (slotCounted s o).gate = s.gate := rfl
@[simp] theorem slotCounted_diag : (slotCounted s o).diag = s.diag := rfl
@[simp] theorem slotCounted_dec : (slotCounted s o).dec = s.dec := rfl
@[simp] theorem slotCounted_lastIdx : (slotCounted s o).lastIdx = s.lastIdx := rfl
@[simp] theorem slotCounted_haveLast : (slotCounted s o).haveLast = s.haveLast := rfl
@[simp] theorem slotCounted_cfgErr : (slotCounted s o).cfgErr = s.cfgErr := rfl
@[simp] theorem slotCounted_cfgErrCode : (slotCounted s o).cfgErrCode = s.cfgErrCode := rfl
@[simp] theorem slotCounted_irqPend : (slotCounted s o).irqPend = s.irqPend := rfl
@[simp] theorem slotCounted_irqEn : (slotCounted s o).irqEn = s.irqEn := rfl
@[simp] theorem slotCounted_mem : (slotCounted s o).mem = s.mem := rfl
@[simp] theorem slotCounted_inputs : (slotCounted s o).inputs = s.inputs := rfl
@[simp] theorem slotCounted_outs : (slotCounted s o).outs = s.outs := rfl
end

section
/-! `ticked` changes the session alone. -/
@[simp] theorem ticked_par : (ticked s).par = s.par := rfl
@[simp] theorem ticked_cfg : (ticked s).cfg = s.cfg := rfl
@[simp] theorem ticked_gate : (ticked s).gate = s.gate := rfl
@[simp] theorem ticked_tally : (ticked s).tally = s.tally := rfl
@[simp] theorem ticked_diag : (ticked s).diag = s.diag := rfl
@[simp] theorem ticked_dec : (ticked s).dec = s.dec := rfl
@[simp] theorem ticked_lastIdx : (ticked s).lastIdx = s.lastIdx := rfl
@[simp] theorem ticked_haveLast : (ticked s).haveLast = s.haveLast := rfl
@[simp] theorem ticked_cfgErr : (ticked s).cfgErr = s.cfgErr := rfl
@[simp] theorem ticked_cfgErrCode : (ticked s).cfgErrCode = s.cfgErrCode := rfl
@[simp] theorem ticked_irqPend : (ticked s).irqPend = s.irqPend := rfl
@[simp] theorem ticked_irqEn : (ticked s).irqEn = s.irqEn := rfl
@[simp] theorem ticked_mem : (ticked s).mem = s.mem := rfl
@[simp] theorem ticked_inputs : (ticked s).inputs = s.inputs := rfl
@[simp] theorem ticked_outs : (ticked s).outs = s.outs := rfl
end

section
variable (f : Frame)
/-! `recorded` changes the outputs alone. -/
@[simp] theorem recorded_par : (recorded s f).par = s.par := by unfold recorded; split <;> rfl
@[simp] theorem recorded_cfg : (recorded s f).cfg = s.cfg := by unfold recorded; split <;> rfl
@[simp] theorem recorded_rdr : (recorded s f).rdr = s.rdr := by unfold recorded; split <;> rfl
@[simp] theorem recorded_gate : (recorded s f).gate = s.gate := by unfold recorded; split <;> rfl
@[simp] theorem recorded_tally : (recorded s f).tally = s.tally := by unfold recorded; split <;> rfl
@[simp] theorem recorded_diag : (recorded s f).diag = s.diag := by unfold recorded; split <;> rfl
@[simp] theorem recorded_dec : (recorded s f).dec = s.dec := by unfold recorded; split <;> rfl
@[simp] theorem recorded_lastIdx : (recorded s f).lastIdx = s.lastIdx := by unfold recorded; split <;> rfl
@[simp] theorem recorded_haveLast : (recorded s f).haveLast = s.haveLast := by unfold recorded; split <;> rfl
@[simp] theorem recorded_cfgErr : (recorded s f).cfgErr = s.cfgErr := by unfold recorded; split <;> rfl
@[simp] theorem recorded_cfgErrCode : (recorded s f).cfgErrCode = s.cfgErrCode := by unfold recorded; split <;> rfl
@[simp] theorem recorded_irqPend : (recorded s f).irqPend = s.irqPend := by unfold recorded; split <;> rfl
@[simp] theorem recorded_irqEn : (recorded s f).irqEn = s.irqEn := by unfold recorded; split <;> rfl
@[simp] theorem recorded_mem : (recorded s f).mem = s.mem := by unfold recorded; split <;> rfl
@[simp] theorem recorded_inputs : (recorded s f).inputs = s.inputs := by unfold recorded; split <;> rfl
end

section
variable (pc : BitVec 16) (epc : BitVec 96)
/-! `RECORD_ID` changes the tally, the identifier store and the pending causes alone. -/
@[simp] theorem recordId_par :
    (recordId pc epc s).par = s.par := by
  rcases recordId_cases s pc epc with ⟨-, h⟩ | ⟨-, -, h⟩ | ⟨-, -, h⟩ <;> rw [h] <;> rfl
@[simp] theorem recordId_cfg :
    (recordId pc epc s).cfg = s.cfg := by
  rcases recordId_cases s pc epc with ⟨-, h⟩ | ⟨-, -, h⟩ | ⟨-, -, h⟩ <;> rw [h] <;> rfl
@[simp] theorem recordId_rdr :
    (recordId pc epc s).rdr = s.rdr := by
  rcases recordId_cases s pc epc with ⟨-, h⟩ | ⟨-, -, h⟩ | ⟨-, -, h⟩ <;> rw [h] <;> rfl
@[simp] theorem recordId_gate :
    (recordId pc epc s).gate = s.gate := by
  rcases recordId_cases s pc epc with ⟨-, h⟩ | ⟨-, -, h⟩ | ⟨-, -, h⟩ <;> rw [h] <;> rfl
@[simp] theorem recordId_diag :
    (recordId pc epc s).diag = s.diag := by
  rcases recordId_cases s pc epc with ⟨-, h⟩ | ⟨-, -, h⟩ | ⟨-, -, h⟩ <;> rw [h] <;> rfl
@[simp] theorem recordId_dec :
    (recordId pc epc s).dec = s.dec := by
  rcases recordId_cases s pc epc with ⟨-, h⟩ | ⟨-, -, h⟩ | ⟨-, -, h⟩ <;> rw [h] <;> rfl
@[simp] theorem recordId_lastIdx :
    (recordId pc epc s).lastIdx = s.lastIdx := by
  rcases recordId_cases s pc epc with ⟨-, h⟩ | ⟨-, -, h⟩ | ⟨-, -, h⟩ <;> rw [h] <;> rfl
@[simp] theorem recordId_haveLast :
    (recordId pc epc s).haveLast = s.haveLast := by
  rcases recordId_cases s pc epc with ⟨-, h⟩ | ⟨-, -, h⟩ | ⟨-, -, h⟩ <;> rw [h] <;> rfl
@[simp] theorem recordId_cfgErr :
    (recordId pc epc s).cfgErr = s.cfgErr := by
  rcases recordId_cases s pc epc with ⟨-, h⟩ | ⟨-, -, h⟩ | ⟨-, -, h⟩ <;> rw [h] <;> rfl
@[simp] theorem recordId_cfgErrCode :
    (recordId pc epc s).cfgErrCode = s.cfgErrCode := by
  rcases recordId_cases s pc epc with ⟨-, h⟩ | ⟨-, -, h⟩ | ⟨-, -, h⟩ <;> rw [h] <;> rfl
@[simp] theorem recordId_irqEn :
    (recordId pc epc s).irqEn = s.irqEn := by
  rcases recordId_cases s pc epc with ⟨-, h⟩ | ⟨-, -, h⟩ | ⟨-, -, h⟩ <;> rw [h] <;> rfl
@[simp] theorem recordId_inputs :
    (recordId pc epc s).inputs = s.inputs := by
  rcases recordId_cases s pc epc with ⟨-, h⟩ | ⟨-, -, h⟩ | ⟨-, -, h⟩ <;> rw [h] <;> rfl
@[simp] theorem recordId_outs :
    (recordId pc epc s).outs = s.outs := by
  rcases recordId_cases s pc epc with ⟨-, h⟩ | ⟨-, -, h⟩ | ⟨-, -, h⟩ <;> rw [h] <;> rfl
@[simp] theorem recordId_mem_fb :
    (recordId pc epc s).mem.fb = s.mem.fb := by
  rcases recordId_cases s pc epc with ⟨-, h⟩ | ⟨-, -, h⟩ | ⟨-, -, h⟩ <;> rw [h] <;> rfl
@[simp] theorem recordId_mem_hb :
    (recordId pc epc s).mem.hb = s.mem.hb := by
  rcases recordId_cases s pc epc with ⟨-, h⟩ | ⟨-, -, h⟩ | ⟨-, -, h⟩ <;> rw [h] <;> rfl
end

section
/-! `ROUND_BEGIN`. -/
@[simp] theorem roundBegin_par :
    (roundBegin s).par = s.par := by
  rcases roundBegin_cases s with ⟨-, h⟩ | ⟨-, -, ⟨-, h⟩ | ⟨-, h⟩⟩ <;> rw [h] <;> rfl
@[simp] theorem roundBegin_cfg :
    (roundBegin s).cfg = s.cfg := by
  rcases roundBegin_cases s with ⟨-, h⟩ | ⟨-, -, ⟨-, h⟩ | ⟨-, h⟩⟩ <;> rw [h] <;> rfl
@[simp] theorem roundBegin_dec :
    (roundBegin s).dec = s.dec := by
  rcases roundBegin_cases s with ⟨-, h⟩ | ⟨-, -, ⟨-, h⟩ | ⟨-, h⟩⟩ <;> rw [h] <;> rfl
@[simp] theorem roundBegin_lastIdx :
    (roundBegin s).lastIdx = s.lastIdx := by
  rcases roundBegin_cases s with ⟨-, h⟩ | ⟨-, -, ⟨-, h⟩ | ⟨-, h⟩⟩ <;> rw [h] <;> rfl
@[simp] theorem roundBegin_haveLast :
    (roundBegin s).haveLast = s.haveLast := by
  rcases roundBegin_cases s with ⟨-, h⟩ | ⟨-, -, ⟨-, h⟩ | ⟨-, h⟩⟩ <;> rw [h] <;> rfl
@[simp] theorem roundBegin_cfgErr :
    (roundBegin s).cfgErr = s.cfgErr := by
  rcases roundBegin_cases s with ⟨-, h⟩ | ⟨-, -, ⟨-, h⟩ | ⟨-, h⟩⟩ <;> rw [h] <;> rfl
@[simp] theorem roundBegin_cfgErrCode :
    (roundBegin s).cfgErrCode = s.cfgErrCode := by
  rcases roundBegin_cases s with ⟨-, h⟩ | ⟨-, -, ⟨-, h⟩ | ⟨-, h⟩⟩ <;> rw [h] <;> rfl
@[simp] theorem roundBegin_irqEn :
    (roundBegin s).irqEn = s.irqEn := by
  rcases roundBegin_cases s with ⟨-, h⟩ | ⟨-, -, ⟨-, h⟩ | ⟨-, h⟩⟩ <;> rw [h] <;> rfl
@[simp] theorem roundBegin_inputs :
    (roundBegin s).inputs = s.inputs := by
  rcases roundBegin_cases s with ⟨-, h⟩ | ⟨-, -, ⟨-, h⟩ | ⟨-, h⟩⟩ <;> rw [h] <;> rfl
@[simp] theorem roundBegin_diag :
    (roundBegin s).diag = s.diag := by
  rcases roundBegin_cases s with ⟨-, h⟩ | ⟨-, -, ⟨-, h⟩ | ⟨-, h⟩⟩ <;> rw [h] <;> rfl
@[simp] theorem roundBegin_gate_nf :
    (roundBegin s).gate.nf = s.gate.nf := by
  rcases roundBegin_cases s with ⟨-, h⟩ | ⟨-, -, ⟨-, h⟩ | ⟨-, h⟩⟩ <;> rw [h] <;> rfl
@[simp] theorem roundBegin_mem_fb :
    (roundBegin s).mem.fb = s.mem.fb := by
  rcases roundBegin_cases s with ⟨-, h⟩ | ⟨-, -, ⟨-, h⟩ | ⟨-, h⟩⟩ <;> rw [h] <;> rfl
@[simp] theorem roundBegin_mem_ids :
    (roundBegin s).mem.ids = s.mem.ids := by
  rcases roundBegin_cases s with ⟨-, h⟩ | ⟨-, -, ⟨-, h⟩ | ⟨-, h⟩⟩ <;> rw [h] <;> rfl
end

section
variable (o : SlotOutcome)
/-! `END_SLOT`. -/
@[simp] theorem endSlot_par :
    (endSlot o s).par = s.par := by
  rcases endSlot_cases s o with ⟨-, h⟩ | ⟨-, -, h⟩ | ⟨-, -, h⟩ <;> rw [h] <;> simp
@[simp] theorem endSlot_cfg :
    (endSlot o s).cfg = s.cfg := by
  rcases endSlot_cases s o with ⟨-, h⟩ | ⟨-, -, h⟩ | ⟨-, -, h⟩ <;> rw [h] <;> simp
@[simp] theorem endSlot_dec :
    (endSlot o s).dec = s.dec := by
  rcases endSlot_cases s o with ⟨-, h⟩ | ⟨-, -, h⟩ | ⟨-, -, h⟩ <;> rw [h] <;> simp
@[simp] theorem endSlot_lastIdx :
    (endSlot o s).lastIdx = s.lastIdx := by
  rcases endSlot_cases s o with ⟨-, h⟩ | ⟨-, -, h⟩ | ⟨-, -, h⟩ <;> rw [h] <;> simp
@[simp] theorem endSlot_haveLast :
    (endSlot o s).haveLast = s.haveLast := by
  rcases endSlot_cases s o with ⟨-, h⟩ | ⟨-, -, h⟩ | ⟨-, -, h⟩ <;> rw [h] <;> simp
@[simp] theorem endSlot_cfgErr :
    (endSlot o s).cfgErr = s.cfgErr := by
  rcases endSlot_cases s o with ⟨-, h⟩ | ⟨-, -, h⟩ | ⟨-, -, h⟩ <;> rw [h] <;> simp
@[simp] theorem endSlot_cfgErrCode :
    (endSlot o s).cfgErrCode = s.cfgErrCode := by
  rcases endSlot_cases s o with ⟨-, h⟩ | ⟨-, -, h⟩ | ⟨-, -, h⟩ <;> rw [h] <;> simp
@[simp] theorem endSlot_irqEn :
    (endSlot o s).irqEn = s.irqEn := by
  rcases endSlot_cases s o with ⟨-, h⟩ | ⟨-, -, h⟩ | ⟨-, -, h⟩ <;> rw [h] <;> simp
@[simp] theorem endSlot_inputs :
    (endSlot o s).inputs = s.inputs := by
  rcases endSlot_cases s o with ⟨-, h⟩ | ⟨-, -, h⟩ | ⟨-, -, h⟩ <;> rw [h] <;> simp
@[simp] theorem endSlot_diag :
    (endSlot o s).diag = s.diag := by
  rcases endSlot_cases s o with ⟨-, h⟩ | ⟨-, -, h⟩ | ⟨-, -, h⟩ <;> rw [h] <;> simp
@[simp] theorem endSlot_gate_nf :
    (endSlot o s).gate.nf = s.gate.nf := by
  rcases endSlot_cases s o with ⟨-, h⟩ | ⟨-, -, h⟩ | ⟨-, -, h⟩ <;> rw [h] <;> simp
@[simp] theorem endSlot_mem_fb :
    (endSlot o s).mem.fb = s.mem.fb := by
  rcases endSlot_cases s o with ⟨-, h⟩ | ⟨-, -, h⟩ | ⟨-, -, h⟩ <;> rw [h] <;> simp
@[simp] theorem endSlot_mem_ids :
    (endSlot o s).mem.ids = s.mem.ids := by
  rcases endSlot_cases s o with ⟨-, h⟩ | ⟨-, -, h⟩ | ⟨-, -, h⟩ <;> rw [h] <;> simp
end

section
variable (rn : BitVec 16)
/-! `ACK_OR_REFUSE`. -/
@[simp] theorem ackOrRefuse_par :
    (ackOrRefuse rn s).par = s.par := by
  rcases ackOrRefuse_cases s rn with ⟨-, h⟩ | ⟨-, h⟩ <;> rw [h] <;> simp
@[simp] theorem ackOrRefuse_cfg :
    (ackOrRefuse rn s).cfg = s.cfg := by
  rcases ackOrRefuse_cases s rn with ⟨-, h⟩ | ⟨-, h⟩ <;> rw [h] <;> simp
@[simp] theorem ackOrRefuse_dec :
    (ackOrRefuse rn s).dec = s.dec := by
  rcases ackOrRefuse_cases s rn with ⟨-, h⟩ | ⟨-, h⟩ <;> rw [h] <;> simp
@[simp] theorem ackOrRefuse_lastIdx :
    (ackOrRefuse rn s).lastIdx = s.lastIdx := by
  rcases ackOrRefuse_cases s rn with ⟨-, h⟩ | ⟨-, h⟩ <;> rw [h] <;> simp
@[simp] theorem ackOrRefuse_haveLast :
    (ackOrRefuse rn s).haveLast = s.haveLast := by
  rcases ackOrRefuse_cases s rn with ⟨-, h⟩ | ⟨-, h⟩ <;> rw [h] <;> simp
@[simp] theorem ackOrRefuse_cfgErr :
    (ackOrRefuse rn s).cfgErr = s.cfgErr := by
  rcases ackOrRefuse_cases s rn with ⟨-, h⟩ | ⟨-, h⟩ <;> rw [h] <;> simp
@[simp] theorem ackOrRefuse_cfgErrCode :
    (ackOrRefuse rn s).cfgErrCode = s.cfgErrCode := by
  rcases ackOrRefuse_cases s rn with ⟨-, h⟩ | ⟨-, h⟩ <;> rw [h] <;> simp
@[simp] theorem ackOrRefuse_irqEn :
    (ackOrRefuse rn s).irqEn = s.irqEn := by
  rcases ackOrRefuse_cases s rn with ⟨-, h⟩ | ⟨-, h⟩ <;> rw [h] <;> simp
@[simp] theorem ackOrRefuse_inputs :
    (ackOrRefuse rn s).inputs = s.inputs := by
  rcases ackOrRefuse_cases s rn with ⟨-, h⟩ | ⟨-, h⟩ <;> rw [h] <;> simp
@[simp] theorem ackOrRefuse_gate_nf :
    (ackOrRefuse rn s).gate.nf = s.gate.nf := by
  rcases ackOrRefuse_cases s rn with ⟨-, h⟩ | ⟨-, h⟩ <;> rw [h] <;> simp
@[simp] theorem ackOrRefuse_mem_fb :
    (ackOrRefuse rn s).mem.fb = s.mem.fb := by
  rcases ackOrRefuse_cases s rn with ⟨-, h⟩ | ⟨-, h⟩ <;> rw [h] <;> simp
@[simp] theorem ackOrRefuse_mem_ids :
    (ackOrRefuse rn s).mem.ids = s.mem.ids := by
  rcases ackOrRefuse_cases s rn with ⟨-, h⟩ | ⟨-, h⟩ <;> rw [h] <;> simp
end

section
variable (d : Decoded)
/-! `CLASSIFY`. -/
@[simp] theorem classify_par :
    (classify d s).par = s.par := by
  rcases classify_cases s d with ⟨-, -, h⟩ | ⟨-, -, h⟩ | ⟨-, -, h⟩ | ⟨-, -, h⟩ | ⟨-, -, -, h⟩ | ⟨-, -, h⟩ | ⟨-, -, h⟩ <;>
    rw [h] <;> simp
@[simp] theorem classify_cfg :
    (classify d s).cfg = s.cfg := by
  rcases classify_cases s d with ⟨-, -, h⟩ | ⟨-, -, h⟩ | ⟨-, -, h⟩ | ⟨-, -, h⟩ | ⟨-, -, -, h⟩ | ⟨-, -, h⟩ | ⟨-, -, h⟩ <;>
    rw [h] <;> simp
@[simp] theorem classify_dec :
    (classify d s).dec = s.dec := by
  rcases classify_cases s d with ⟨-, -, h⟩ | ⟨-, -, h⟩ | ⟨-, -, h⟩ | ⟨-, -, h⟩ | ⟨-, -, -, h⟩ | ⟨-, -, h⟩ | ⟨-, -, h⟩ <;>
    rw [h] <;> simp
@[simp] theorem classify_lastIdx :
    (classify d s).lastIdx = s.lastIdx := by
  rcases classify_cases s d with ⟨-, -, h⟩ | ⟨-, -, h⟩ | ⟨-, -, h⟩ | ⟨-, -, h⟩ | ⟨-, -, -, h⟩ | ⟨-, -, h⟩ | ⟨-, -, h⟩ <;>
    rw [h] <;> simp
@[simp] theorem classify_haveLast :
    (classify d s).haveLast = s.haveLast := by
  rcases classify_cases s d with ⟨-, -, h⟩ | ⟨-, -, h⟩ | ⟨-, -, h⟩ | ⟨-, -, h⟩ | ⟨-, -, -, h⟩ | ⟨-, -, h⟩ | ⟨-, -, h⟩ <;>
    rw [h] <;> simp
@[simp] theorem classify_cfgErr :
    (classify d s).cfgErr = s.cfgErr := by
  rcases classify_cases s d with ⟨-, -, h⟩ | ⟨-, -, h⟩ | ⟨-, -, h⟩ | ⟨-, -, h⟩ | ⟨-, -, -, h⟩ | ⟨-, -, h⟩ | ⟨-, -, h⟩ <;>
    rw [h] <;> simp
@[simp] theorem classify_cfgErrCode :
    (classify d s).cfgErrCode = s.cfgErrCode := by
  rcases classify_cases s d with ⟨-, -, h⟩ | ⟨-, -, h⟩ | ⟨-, -, h⟩ | ⟨-, -, h⟩ | ⟨-, -, -, h⟩ | ⟨-, -, h⟩ | ⟨-, -, h⟩ <;>
    rw [h] <;> simp
@[simp] theorem classify_irqEn :
    (classify d s).irqEn = s.irqEn := by
  rcases classify_cases s d with ⟨-, -, h⟩ | ⟨-, -, h⟩ | ⟨-, -, h⟩ | ⟨-, -, h⟩ | ⟨-, -, -, h⟩ | ⟨-, -, h⟩ | ⟨-, -, h⟩ <;>
    rw [h] <;> simp
@[simp] theorem classify_inputs :
    (classify d s).inputs = s.inputs := by
  rcases classify_cases s d with ⟨-, -, h⟩ | ⟨-, -, h⟩ | ⟨-, -, h⟩ | ⟨-, -, h⟩ | ⟨-, -, -, h⟩ | ⟨-, -, h⟩ | ⟨-, -, h⟩ <;>
    rw [h] <;> simp
@[simp] theorem classify_gate_nf :
    (classify d s).gate.nf = s.gate.nf := by
  rcases classify_cases s d with ⟨-, -, h⟩ | ⟨-, -, h⟩ | ⟨-, -, h⟩ | ⟨-, -, h⟩ | ⟨-, -, -, h⟩ | ⟨-, -, h⟩ | ⟨-, -, h⟩ <;>
    rw [h] <;> simp
@[simp] theorem classify_mem_fb :
    (classify d s).mem.fb = s.mem.fb := by
  rcases classify_cases s d with ⟨-, -, h⟩ | ⟨-, -, h⟩ | ⟨-, -, h⟩ | ⟨-, -, h⟩ | ⟨-, -, -, h⟩ | ⟨-, -, h⟩ | ⟨-, -, h⟩ <;>
    rw [h] <;> simp
end

section
/-! `SLOT_TICK`. -/
@[simp] theorem slotTick_par :
    (slotTick s).par = s.par := by
  rcases slotTick_cases s with ⟨-, -, h⟩ | ⟨-, h⟩ <;> rw [h] <;> simp
@[simp] theorem slotTick_cfg :
    (slotTick s).cfg = s.cfg := by
  rcases slotTick_cases s with ⟨-, -, h⟩ | ⟨-, h⟩ <;> rw [h] <;> simp
@[simp] theorem slotTick_dec :
    (slotTick s).dec = s.dec := by
  rcases slotTick_cases s with ⟨-, -, h⟩ | ⟨-, h⟩ <;> rw [h] <;> simp
@[simp] theorem slotTick_lastIdx :
    (slotTick s).lastIdx = s.lastIdx := by
  rcases slotTick_cases s with ⟨-, -, h⟩ | ⟨-, h⟩ <;> rw [h] <;> simp
@[simp] theorem slotTick_haveLast :
    (slotTick s).haveLast = s.haveLast := by
  rcases slotTick_cases s with ⟨-, -, h⟩ | ⟨-, h⟩ <;> rw [h] <;> simp
@[simp] theorem slotTick_cfgErr :
    (slotTick s).cfgErr = s.cfgErr := by
  rcases slotTick_cases s with ⟨-, -, h⟩ | ⟨-, h⟩ <;> rw [h] <;> simp
@[simp] theorem slotTick_cfgErrCode :
    (slotTick s).cfgErrCode = s.cfgErrCode := by
  rcases slotTick_cases s with ⟨-, -, h⟩ | ⟨-, h⟩ <;> rw [h] <;> simp
@[simp] theorem slotTick_irqEn :
    (slotTick s).irqEn = s.irqEn := by
  rcases slotTick_cases s with ⟨-, -, h⟩ | ⟨-, h⟩ <;> rw [h] <;> simp
@[simp] theorem slotTick_inputs :
    (slotTick s).inputs = s.inputs := by
  rcases slotTick_cases s with ⟨-, -, h⟩ | ⟨-, h⟩ <;> rw [h] <;> simp
@[simp] theorem slotTick_gate_nf :
    (slotTick s).gate.nf = s.gate.nf := by
  rcases slotTick_cases s with ⟨-, -, h⟩ | ⟨-, h⟩ <;> rw [h] <;> simp
@[simp] theorem slotTick_mem_fb :
    (slotTick s).mem.fb = s.mem.fb := by
  rcases slotTick_cases s with ⟨-, -, h⟩ | ⟨-, h⟩ <;> rw [h] <;> simp
end

section
variable (f : Frame) (d : Decoded)
/-! `ON_FRAME`. -/
@[simp] theorem onFrame_par :
    (onFrame f d s).par = s.par := by
  rcases onFrame_cases s f d with ⟨-, h⟩ | ⟨-, h⟩
  · rw [h]
  · rw [h]; simp
@[simp] theorem onFrame_cfg :
    (onFrame f d s).cfg = s.cfg := by
  rcases onFrame_cases s f d with ⟨-, h⟩ | ⟨-, h⟩
  · rw [h]
  · rw [h]; simp
@[simp] theorem onFrame_dec :
    (onFrame f d s).dec = s.dec := by
  rcases onFrame_cases s f d with ⟨-, h⟩ | ⟨-, h⟩
  · rw [h]
  · rw [h]; simp
@[simp] theorem onFrame_lastIdx :
    (onFrame f d s).lastIdx = s.lastIdx := by
  rcases onFrame_cases s f d with ⟨-, h⟩ | ⟨-, h⟩
  · rw [h]
  · rw [h]; simp
@[simp] theorem onFrame_haveLast :
    (onFrame f d s).haveLast = s.haveLast := by
  rcases onFrame_cases s f d with ⟨-, h⟩ | ⟨-, h⟩
  · rw [h]
  · rw [h]; simp
@[simp] theorem onFrame_cfgErr :
    (onFrame f d s).cfgErr = s.cfgErr := by
  rcases onFrame_cases s f d with ⟨-, h⟩ | ⟨-, h⟩
  · rw [h]
  · rw [h]; simp
@[simp] theorem onFrame_cfgErrCode :
    (onFrame f d s).cfgErrCode = s.cfgErrCode := by
  rcases onFrame_cases s f d with ⟨-, h⟩ | ⟨-, h⟩
  · rw [h]
  · rw [h]; simp
@[simp] theorem onFrame_irqEn :
    (onFrame f d s).irqEn = s.irqEn := by
  rcases onFrame_cases s f d with ⟨-, h⟩ | ⟨-, h⟩
  · rw [h]
  · rw [h]; simp
@[simp] theorem onFrame_inputs :
    (onFrame f d s).inputs = s.inputs := by
  rcases onFrame_cases s f d with ⟨-, h⟩ | ⟨-, h⟩
  · rw [h]
  · rw [h]; simp
@[simp] theorem onFrame_gate_nf :
    (onFrame f d s).gate.nf = s.gate.nf := by
  rcases onFrame_cases s f d with ⟨-, h⟩ | ⟨-, h⟩
  · rw [h]
  · rw [h]; simp
@[simp] theorem onFrame_mem_fb :
    (onFrame f d s).mem.fb = s.mem.fb := by
  rcases onFrame_cases s f d with ⟨-, h⟩ | ⟨-, h⟩
  · rw [h]
  · rw [h]; simp
end

section
/-! `TX_DONE`. -/
@[simp] theorem txDone_par :
    (txDone s).par = s.par := by
  rcases txDone_cases s with ⟨-, h⟩ | ⟨-, -, -, h⟩ | ⟨-, -, -, h⟩ | ⟨-, -, h⟩ <;> rw [h] <;> rfl
@[simp] theorem txDone_cfg :
    (txDone s).cfg = s.cfg := by
  rcases txDone_cases s with ⟨-, h⟩ | ⟨-, -, -, h⟩ | ⟨-, -, -, h⟩ | ⟨-, -, h⟩ <;> rw [h] <;> rfl
@[simp] theorem txDone_dec :
    (txDone s).dec = s.dec := by
  rcases txDone_cases s with ⟨-, h⟩ | ⟨-, -, -, h⟩ | ⟨-, -, -, h⟩ | ⟨-, -, h⟩ <;> rw [h] <;> rfl
@[simp] theorem txDone_lastIdx :
    (txDone s).lastIdx = s.lastIdx := by
  rcases txDone_cases s with ⟨-, h⟩ | ⟨-, -, -, h⟩ | ⟨-, -, -, h⟩ | ⟨-, -, h⟩ <;> rw [h] <;> rfl
@[simp] theorem txDone_haveLast :
    (txDone s).haveLast = s.haveLast := by
  rcases txDone_cases s with ⟨-, h⟩ | ⟨-, -, -, h⟩ | ⟨-, -, -, h⟩ | ⟨-, -, h⟩ <;> rw [h] <;> rfl
@[simp] theorem txDone_cfgErr :
    (txDone s).cfgErr = s.cfgErr := by
  rcases txDone_cases s with ⟨-, h⟩ | ⟨-, -, -, h⟩ | ⟨-, -, -, h⟩ | ⟨-, -, h⟩ <;> rw [h] <;> rfl
@[simp] theorem txDone_cfgErrCode :
    (txDone s).cfgErrCode = s.cfgErrCode := by
  rcases txDone_cases s with ⟨-, h⟩ | ⟨-, -, -, h⟩ | ⟨-, -, -, h⟩ | ⟨-, -, h⟩ <;> rw [h] <;> rfl
@[simp] theorem txDone_irqEn :
    (txDone s).irqEn = s.irqEn := by
  rcases txDone_cases s with ⟨-, h⟩ | ⟨-, -, -, h⟩ | ⟨-, -, -, h⟩ | ⟨-, -, h⟩ <;> rw [h] <;> rfl
@[simp] theorem txDone_inputs :
    (txDone s).inputs = s.inputs := by
  rcases txDone_cases s with ⟨-, h⟩ | ⟨-, -, -, h⟩ | ⟨-, -, -, h⟩ | ⟨-, -, h⟩ <;> rw [h] <;> rfl
@[simp] theorem txDone_tally :
    (txDone s).tally = s.tally := by
  rcases txDone_cases s with ⟨-, h⟩ | ⟨-, -, -, h⟩ | ⟨-, -, -, h⟩ | ⟨-, -, h⟩ <;> rw [h] <;> rfl
@[simp] theorem txDone_diag :
    (txDone s).diag = s.diag := by
  rcases txDone_cases s with ⟨-, h⟩ | ⟨-, -, -, h⟩ | ⟨-, -, -, h⟩ | ⟨-, -, h⟩ <;> rw [h] <;> rfl
@[simp] theorem txDone_mem :
    (txDone s).mem = s.mem := by
  rcases txDone_cases s with ⟨-, h⟩ | ⟨-, -, -, h⟩ | ⟨-, -, -, h⟩ | ⟨-, -, h⟩ <;> rw [h] <;> rfl
@[simp] theorem txDone_gate_nf :
    (txDone s).gate.nf = s.gate.nf := by
  rcases txDone_cases s with ⟨-, h⟩ | ⟨-, -, -, h⟩ | ⟨-, -, -, h⟩ | ⟨-, -, h⟩ <;> rw [h] <;> rfl
end

section
variable (idx : BitVec 32)
/-! `DISCONT_CHECK` changes the Gate, the diagnostic counters and the pending causes alone. -/
@[simp] theorem discontCheck_par :
    (discontCheck idx s).par = s.par := by
  unfold discontCheck; dsimp only; split
  · split <;> rfl
  · rfl
@[simp] theorem discontCheck_cfg :
    (discontCheck idx s).cfg = s.cfg := by
  unfold discontCheck; dsimp only; split
  · split <;> rfl
  · rfl
@[simp] theorem discontCheck_rdr :
    (discontCheck idx s).rdr = s.rdr := by
  unfold discontCheck; dsimp only; split
  · split <;> rfl
  · rfl
@[simp] theorem discontCheck_tally :
    (discontCheck idx s).tally = s.tally := by
  unfold discontCheck; dsimp only; split
  · split <;> rfl
  · rfl
@[simp] theorem discontCheck_dec :
    (discontCheck idx s).dec = s.dec := by
  unfold discontCheck; dsimp only; split
  · split <;> rfl
  · rfl
@[simp] theorem discontCheck_lastIdx :
    (discontCheck idx s).lastIdx = s.lastIdx := by
  unfold discontCheck; dsimp only; split
  · split <;> rfl
  · rfl
@[simp] theorem discontCheck_haveLast :
    (discontCheck idx s).haveLast = s.haveLast := by
  unfold discontCheck; dsimp only; split
  · split <;> rfl
  · rfl
@[simp] theorem discontCheck_cfgErr :
    (discontCheck idx s).cfgErr = s.cfgErr := by
  unfold discontCheck; dsimp only; split
  · split <;> rfl
  · rfl
@[simp] theorem discontCheck_cfgErrCode :
    (discontCheck idx s).cfgErrCode = s.cfgErrCode := by
  unfold discontCheck; dsimp only; split
  · split <;> rfl
  · rfl
@[simp] theorem discontCheck_irqEn :
    (discontCheck idx s).irqEn = s.irqEn := by
  unfold discontCheck; dsimp only; split
  · split <;> rfl
  · rfl
@[simp] theorem discontCheck_mem :
    (discontCheck idx s).mem = s.mem := by
  unfold discontCheck; dsimp only; split
  · split <;> rfl
  · rfl
@[simp] theorem discontCheck_inputs :
    (discontCheck idx s).inputs = s.inputs := by
  unfold discontCheck; dsimp only; split
  · split <;> rfl
  · rfl
@[simp] theorem discontCheck_outs :
    (discontCheck idx s).outs = s.outs := by
  unfold discontCheck; dsimp only; split
  · split <;> rfl
  · rfl
@[simp] theorem discontCheck_gate_nf :
    (discontCheck idx s).gate.nf = s.gate.nf := by
  unfold discontCheck; dsimp only; split
  · split <;> rfl
  · rfl
end

section
variable (idx : BitVec 32)
/-! `noteIndex` changes the Gate, the diagnostic counters, the pending causes and the last index alone. -/
@[simp] theorem noteIndex_par : (noteIndex idx s).par = s.par := discontCheck_par s idx
@[simp] theorem noteIndex_cfg : (noteIndex idx s).cfg = s.cfg := discontCheck_cfg s idx
@[simp] theorem noteIndex_rdr : (noteIndex idx s).rdr = s.rdr := discontCheck_rdr s idx
@[simp] theorem noteIndex_tally : (noteIndex idx s).tally = s.tally := discontCheck_tally s idx
@[simp] theorem noteIndex_dec : (noteIndex idx s).dec = s.dec := discontCheck_dec s idx
@[simp] theorem noteIndex_cfgErr : (noteIndex idx s).cfgErr = s.cfgErr := discontCheck_cfgErr s idx
@[simp] theorem noteIndex_cfgErrCode : (noteIndex idx s).cfgErrCode = s.cfgErrCode := discontCheck_cfgErrCode s idx
@[simp] theorem noteIndex_irqEn : (noteIndex idx s).irqEn = s.irqEn := discontCheck_irqEn s idx
@[simp] theorem noteIndex_mem : (noteIndex idx s).mem = s.mem := discontCheck_mem s idx
@[simp] theorem noteIndex_inputs : (noteIndex idx s).inputs = s.inputs := discontCheck_inputs s idx
@[simp] theorem noteIndex_outs : (noteIndex idx s).outs = s.outs := discontCheck_outs s idx
end

section
variable (len : BitVec 16) (forced : Bool)
/-! `CLOSE` changes the Gate and the diagnostic counters alone. -/
@[simp] theorem closeFrame_par :
    (closeFrame len forced s).1.par = s.par := by
  unfold closeFrame; dsimp only; split <;> split <;> rfl
@[simp] theorem closeFrame_cfg :
    (closeFrame len forced s).1.cfg = s.cfg := by
  unfold closeFrame; dsimp only; split <;> split <;> rfl
@[simp] theorem closeFrame_rdr :
    (closeFrame len forced s).1.rdr = s.rdr := by
  unfold closeFrame; dsimp only; split <;> split <;> rfl
@[simp] theorem closeFrame_tally :
    (closeFrame len forced s).1.tally = s.tally := by
  unfold closeFrame; dsimp only; split <;> split <;> rfl
@[simp] theorem closeFrame_dec :
    (closeFrame len forced s).1.dec = s.dec := by
  unfold closeFrame; dsimp only; split <;> split <;> rfl
@[simp] theorem closeFrame_lastIdx :
    (closeFrame len forced s).1.lastIdx = s.lastIdx := by
  unfold closeFrame; dsimp only; split <;> split <;> rfl
@[simp] theorem closeFrame_haveLast :
    (closeFrame len forced s).1.haveLast = s.haveLast := by
  unfold closeFrame; dsimp only; split <;> split <;> rfl
@[simp] theorem closeFrame_cfgErr :
    (closeFrame len forced s).1.cfgErr = s.cfgErr := by
  unfold closeFrame; dsimp only; split <;> split <;> rfl
@[simp] theorem closeFrame_cfgErrCode :
    (closeFrame len forced s).1.cfgErrCode = s.cfgErrCode := by
  unfold closeFrame; dsimp only; split <;> split <;> rfl
@[simp] theorem closeFrame_irqPend :
    (closeFrame len forced s).1.irqPend = s.irqPend := by
  unfold closeFrame; dsimp only; split <;> split <;> rfl
@[simp] theorem closeFrame_irqEn :
    (closeFrame len forced s).1.irqEn = s.irqEn := by
  unfold closeFrame; dsimp only; split <;> split <;> rfl
@[simp] theorem closeFrame_mem :
    (closeFrame len forced s).1.mem = s.mem := by
  unfold closeFrame; dsimp only; split <;> split <;> rfl
@[simp] theorem closeFrame_inputs :
    (closeFrame len forced s).1.inputs = s.inputs := by
  unfold closeFrame; dsimp only; split <;> split <;> rfl
@[simp] theorem closeFrame_outs :
    (closeFrame len forced s).1.outs = s.outs := by
  unfold closeFrame; dsimp only; split <;> split <;> rfl
@[simp] theorem closeFrame_gate_nf :
    (closeFrame len forced s).1.gate.nf = s.gate.nf := by
  unfold closeFrame; dsimp only; split <;> split <;> rfl
end

section
variable (idx : BitVec 32) (x : Sample)
/-! `GATE_STEP` changes the Gate, the diagnostic counters and the frame buffer alone. -/
@[simp] theorem gateStep_par :
    (gateStep idx x s).1.par = s.par := by
  unfold gateStep; dsimp only; split
  · split <;> [split; skip] <;> simp
  · split <;> [skip; split] <;> simp
  · rfl
@[simp] theorem gateStep_cfg :
    (gateStep idx x s).1.cfg = s.cfg := by
  unfold gateStep; dsimp only; split
  · split <;> [split; skip] <;> simp
  · split <;> [skip; split] <;> simp
  · rfl
@[simp] theorem gateStep_rdr :
    (gateStep idx x s).1.rdr = s.rdr := by
  unfold gateStep; dsimp only; split
  · split <;> [split; skip] <;> simp
  · split <;> [skip; split] <;> simp
  · rfl
@[simp] theorem gateStep_tally :
    (gateStep idx x s).1.tally = s.tally := by
  unfold gateStep; dsimp only; split
  · split <;> [split; skip] <;> simp
  · split <;> [skip; split] <;> simp
  · rfl
@[simp] theorem gateStep_dec :
    (gateStep idx x s).1.dec = s.dec := by
  unfold gateStep; dsimp only; split
  · split <;> [split; skip] <;> simp
  · split <;> [skip; split] <;> simp
  · rfl
@[simp] theorem gateStep_lastIdx :
    (gateStep idx x s).1.lastIdx = s.lastIdx := by
  unfold gateStep; dsimp only; split
  · split <;> [split; skip] <;> simp
  · split <;> [skip; split] <;> simp
  · rfl
@[simp] theorem gateStep_haveLast :
    (gateStep idx x s).1.haveLast = s.haveLast := by
  unfold gateStep; dsimp only; split
  · split <;> [split; skip] <;> simp
  · split <;> [skip; split] <;> simp
  · rfl
@[simp] theorem gateStep_cfgErr :
    (gateStep idx x s).1.cfgErr = s.cfgErr := by
  unfold gateStep; dsimp only; split
  · split <;> [split; skip] <;> simp
  · split <;> [skip; split] <;> simp
  · rfl
@[simp] theorem gateStep_cfgErrCode :
    (gateStep idx x s).1.cfgErrCode = s.cfgErrCode := by
  unfold gateStep; dsimp only; split
  · split <;> [split; skip] <;> simp
  · split <;> [skip; split] <;> simp
  · rfl
@[simp] theorem gateStep_irqPend :
    (gateStep idx x s).1.irqPend = s.irqPend := by
  unfold gateStep; dsimp only; split
  · split <;> [split; skip] <;> simp
  · split <;> [skip; split] <;> simp
  · rfl
@[simp] theorem gateStep_irqEn :
    (gateStep idx x s).1.irqEn = s.irqEn := by
  unfold gateStep; dsimp only; split
  · split <;> [split; skip] <;> simp
  · split <;> [skip; split] <;> simp
  · rfl
@[simp] theorem gateStep_inputs :
    (gateStep idx x s).1.inputs = s.inputs := by
  unfold gateStep; dsimp only; split
  · split <;> [split; skip] <;> simp
  · split <;> [skip; split] <;> simp
  · rfl
@[simp] theorem gateStep_outs :
    (gateStep idx x s).1.outs = s.outs := by
  unfold gateStep; dsimp only; split
  · split <;> [split; skip] <;> simp
  · split <;> [skip; split] <;> simp
  · rfl
@[simp] theorem gateStep_mem_hb :
    (gateStep idx x s).1.mem.hb = s.mem.hb := by
  unfold gateStep; dsimp only; split
  · split <;> [split; skip] <;> simp
  · split <;> [skip; split] <;> simp
  · rfl
@[simp] theorem gateStep_mem_ids :
    (gateStep idx x s).1.mem.ids = s.mem.ids := by
  unfold gateStep; dsimp only; split
  · split <;> [split; skip] <;> simp
  · split <;> [skip; split] <;> simp
  · rfl
end

end Sys2Proof.Machine
end

