-- ==== Sys2Proof/Laws/Gate.lean ====
section
/-! SUPPORT. Everything `DISCONT_CHECK`, `CLOSE`, `GATE_STEP` and the `SAMPLE` step can do. -/

namespace Sys2Proof.Machine

variable (s : State)

/-- Everything `DISCONT_CHECK` can do. -/
theorem discontCheck_cases (idx : BitVec 32) :
    (¬ (s.haveLast = true ∧ idx ≠ s.lastIdx + 1) ∧ discontCheck idx s = s) ∨
    (s.haveLast = true ∧ idx ≠ s.lastIdx + 1 ∧ s.gate.gstate = .inFrame ∧ discontCheck idx s =
      gateReset (raise .discont { s with diag := { s.diag with discontCnt := s.diag.discontCnt + 1 } })) ∨
    (s.haveLast = true ∧ idx ≠ s.lastIdx + 1 ∧ s.gate.gstate ≠ .inFrame ∧ discontCheck idx s =
      raise .discont { s with diag := { s.diag with discontCnt := s.diag.discontCnt + 1 } }) := by
  unfold discontCheck
  dsimp only
  split
  · rename_i h
    split
    · exact .inr (.inl ⟨h.1, h.2, ‹_›, rfl⟩)
    · exact .inr (.inr ⟨h.1, h.2, ‹_›, rfl⟩)
  · exact .inl ⟨‹_›, rfl⟩

/-- The Gate after a close is the reset Gate. -/
@[simp] theorem closeFrame_gate (len : BitVec 16) (forced : Bool) :
    (closeFrame len forced s).1.gate = (gateReset s).gate := by
  unfold closeFrame; dsimp only; split <;> split <;> rfl

/-- The frame a close emits: none for a blip (rule R177). -/
theorem closeFrame_frame (len : BitVec 16) (forced : Bool) :
    (closeFrame len forced s).2 =
      if len.toNat < s.cfg.minLen.toNat then none
      else some { kind := s.gate.gKind, start := s.gate.gStart, len, forced } := by
  unfold closeFrame; dsimp only; split <;> split <;> simp_all

/-- The diagnostic counters after a close (rules R175, R177). -/
theorem closeFrame_diag (len : BitVec 16) (forced : Bool) :
    (closeFrame len forced s).1.diag = { s.diag with
      forcedCnt := if forced then s.diag.forcedCnt + 1 else s.diag.forcedCnt
      blipCnt := if len.toNat < s.cfg.minLen.toNat then s.diag.blipCnt + 1 else s.diag.blipCnt } := by
  cases forced <;> by_cases h : len.toNat < s.cfg.minLen.toNat <;> simp [closeFrame, h]

/-- `GATE_STEP` on a quiet idle sample: the noise floor is updated (rule R173). -/
theorem gateStep_quiet (idx : BitVec 32) (x : Sample) (hg : s.gate.gstate = .idle)
    (h : ¬ thrOn s < energy x.i x.q) :
    gateStep idx x s =
      ({ s with gate := { s.gate with nf := nfUpdate s.gate.nf s.cfg.nfShift (energy x.i x.q) } }, none) := by
  simp [gateStep, hg, h]

/-- `GATE_STEP` on a rising sample (rule R173). -/
theorem gateStep_rise (idx : BitVec 32) (x : Sample) (hg : s.gate.gstate = .idle)
    (h : thrOn s < energy x.i x.q) :
    gateStep idx x s =
      if 1#16 = s.cfg.maxLen then closeFrame 1 true (openFrame idx x s) else (openFrame idx x s, none) := by
  simp only [gateStep, hg, h, if_true]; rfl

/-- `GATE_STEP` in an open frame (rule R174). -/
theorem gateStep_inFrame (idx : BitVec 32) (x : Sample) (hg : s.gate.gstate = .inFrame) :
    gateStep idx x s =
      (let s' := extendFrame x (energy x.i x.q) s
       if s'.gate.gBelow = s'.cfg.hold then closeFrame s'.gate.gLastHi false s'
       else if s'.gate.gLen = s'.cfg.maxLen then closeFrame s'.gate.gLen true s'
       else (s', none)) := by
  simp [gateStep, hg]

/-- The Gate after an open frame takes a sample (rule R174). -/
theorem extendFrame_gate (x : Sample) (en : Nat) :
    (extendFrame x en s).gate =
      if thrOff s ≤ en then { s.gate with gLen := s.gate.gLen + 1, gBelow := 0, gLastHi := s.gate.gLen + 1 }
      else { s.gate with gLen := s.gate.gLen + 1, gBelow := s.gate.gBelow + 1 } := rfl

/-- When `SAMPLE` answers a next state, and which (rules R170, R171). -/
theorem sampleStep_next (idx : BitVec 32) (i q : BitVec 16) (t : State) (h : sampleStep idx i q s = .next t) :
    (s.rdr.rstate = .done ∧ t = s) ∨
    (s.rdr.rstate ≠ .done ∧ fbInRange (noteIndex idx s) = true ∧
      t = afterGate (gateStep idx { i, q } (noteIndex idx s))) := by
  unfold sampleStep at h
  split at h
  · simp_all
  · dsimp only at h
    split at h <;> simp_all

/-- Everything the Reader's part of a sample step can do (rule R170). -/
theorem afterGate_cases (r : State × Option Frame) :
    (∃ f, r.2 = some f ∧ afterGate r =
      onFrame f (decode r.1 f (expect r.1)) (latchLast (decode r.1 f (expect r.1)) r.1)) ∨
    (r.2 = none ∧ listening r.1 = true ∧ afterGate r = slotTick r.1) ∨
    (r.2 = none ∧ listening r.1 = false ∧ afterGate r = r.1) := by
  obtain ⟨s, o⟩ := r
  unfold afterGate
  cases o with
  | some f => exact .inl ⟨f, rfl, rfl⟩
  | none => by_cases h : listening s = true <;> simp [h]

end Sys2Proof.Machine
end

