-- ==== Sys2Proof/Laws/Commands.lean ====
section
/-! SUPPORT. Everything the Command rows and the reply rows of the opcode table can do: at a step boundary a Command does
nothing, where the Reader emits one its instruction is that emission, and a reply changes the pending port activity alone. -/

namespace Sys2Proof.Machine

variable (s : State)

section
variable (dr : BitVec 1) (sel session : BitVec 2) (target : BitVec 1) (q : BitVec 4) (crc : BitVec 5)

/-- Everything a `QUERY` can do. -/
theorem execQuery_cases :
    (opensRound s = true ∧ s.cfg.asksQuery dr sel session target q crc = true ∧
      execQuery dr sel session target q crc s = .next (emitQuery dr sel session target q crc s)) ∨
    (¬ (opensRound s = true ∧ s.cfg.asksQuery dr sel session target q crc = true) ∧
      execQuery dr sel session target q crc s = .next s) := by
  unfold execQuery
  cases opensRound s <;> cases s.cfg.asksQuery dr sel session target q crc <;> simp
end

/-- Everything a `QUERYREP` can do. -/
theorem execQueryRep_cases (session : BitVec 2) :
    (opensNextSlot s = true ∧ session = s.cfg.session ∧ execQueryRep session s = .next (emitQueryRep session s)) ∨
    (¬ (opensNextSlot s = true ∧ session = s.cfg.session) ∧ execQueryRep session s = .next s) := by
  unfold execQueryRep
  by_cases h : session = s.cfg.session <;> cases opensNextSlot s <;> simp [h]

/-- Everything an `ACK` can do. -/
theorem execAck_cases (rn : BitVec 16) :
    (acknowledges rn s = true ∧ execAck rn s = .next (emitAck rn s)) ∨
    (acknowledges rn s = false ∧ execAck rn s = .next s) := by
  unfold execAck; cases acknowledges rn s <;> simp

section
variable (target action : BitVec 3) (memBank : BitVec 2) (pointer : BitVec 7) (length : BitVec 6) (mask : BitVec 32)
  (trunc : BitVec 1) (crc : BitVec 16)

/-- Everything a `SELECT` can do. -/
theorem execSelect_cases :
    (opensRound s = true ∧ s.cfg.asksSelect target action memBank pointer length mask trunc crc = true ∧
      execSelect target action memBank pointer length mask trunc crc s =
        .next (emitSelect target action memBank pointer length mask trunc crc s)) ∨
    (¬ (opensRound s = true ∧ s.cfg.asksSelect target action memBank pointer length mask trunc crc = true) ∧
      execSelect target action memBank pointer length mask trunc crc s = .next s) := by
  unfold execSelect
  cases opensRound s <;> cases s.cfg.asksSelect target action memBank pointer length mask trunc crc <;> simp
end

/-- Where the Reader opens a round, `START_QUERY` is the configured `QUERY`'s instruction. -/
theorem execQuery_configured (h : opensRound s = true) :
    execQuery s.cfg.dr s.cfg.qSel s.cfg.session s.cfg.target s.cfg.rdrQ s.cfg.queryCrc s = .next (startQuery s) := by
  simp [execQuery, h, Cfg.asksQuery, startQuery]

/-- Where the Reader opens a round, the round's Select is the configured `SELECT`'s instruction. -/
theorem execSelect_configured (h : opensRound s = true) (he : s.cfg.selEn = 1) :
    execSelect s.cfg.sTarget s.cfg.action s.cfg.memBank s.cfg.pointer s.cfg.length s.cfg.selMask s.cfg.trunc
      s.cfg.selectCrc s = .next (startSelect s) := by
  simp [execSelect, h, he, Cfg.asksSelect, startSelect]

/-- Marking the slot's success first does not change what an `ACK` does. -/
theorem emitAck_slotSuccess (rn : BitVec 16) : emitAck rn (setRState .slotSuccess s) = emitAck rn s := rfl

/-- Acknowledging a new handle is the `ACK`'s instruction in the transient `SLOT_SUCCESS` (rule R252). -/
theorem ackOrRefuse_eq_execAck (rn : BitVec 16) (hb : s.rdr.txBusy = false) (hh : s.mem.readHb rn = false) :
    execAck rn (setRState .slotSuccess s) = .next (ackOrRefuse rn s) := by
  simp [execAck, acknowledges, hb, hh, ackOrRefuse, emitAck_slotSuccess]

/-- At a step boundary the Reader opens no round: in `ROUND_START` a Command is outstanding (rule R33(b)). -/
theorem opensRound_boundary (h : s.rdr.rstate = .roundStart → s.rdr.txBusy = true) : opensRound s = false := by
  by_cases hr : s.rdr.rstate = .roundStart <;> simp [opensRound, hr, h]

/-- In a state that rule R22 allows at a step boundary no slot has just ended. -/
theorem opensNextSlot_boundary (h : s.rdr.rstate = .done ∨ s.rdr.rstate = .roundStart ∨
    s.rdr.rstate = .awaitSlotReply ∨ s.rdr.rstate = .ackSequence) : opensNextSlot s = false := by
  rcases h with h | h | h | h <;> simp [opensNextSlot, h]

/-- In a state that rule R22 allows at a step boundary no handle is being acknowledged. -/
theorem acknowledges_boundary (rn : BitVec 16) (h : s.rdr.rstate = .done ∨ s.rdr.rstate = .roundStart ∨
    s.rdr.rstate = .awaitSlotReply ∨ s.rdr.rstate = .ackSequence) : acknowledges rn s = false := by
  rcases h with h | h | h | h <;> simp [acknowledges, h]

/-! ### Replies -/

/-- A reply changes the pending port activity alone (rules R10, R110). -/
theorem presentReply_eq (bits : List Bool) (hi lo : BitVec 16) :
    presentReply bits hi lo s = { s with inputs := (presentReply bits hi lo s).inputs } := by
  unfold presentReply; split <;> rfl

/-- One sample per value. -/
@[simp] theorem sampleCycles_length (is : List (BitVec 16)) (idx : BitVec 32) : (sampleCycles is idx).length = is.length := by
  induction is generalizing idx with
  | nil => rfl
  | cons i is ih => simp [sampleCycles, ih]

/-- The `k`-th sample of a reply: the `k`-th value at the `k`-th index from the first. -/
theorem sampleCycles_getElem? (is : List (BitVec 16)) (idx : BitVec 32) (k : Nat) :
    (sampleCycles is idx)[k]? =
      (is[k]?).map fun i => Item.cycle { cycleOf 0b00001 with sIdx := idx + BitVec.ofNat 32 k, sI := i } := by
  induction is generalizing idx k with
  | nil => simp [sampleCycles]
  | cons i is ih =>
    cases k with
    | zero => simp [sampleCycles]
    | succ k =>
      simp only [sampleCycles, List.getElem?_cons_succ, ih]
      congr 1
      funext i
      have : idx + 1 + BitVec.ofNat 32 k = idx + BitVec.ofNat 32 (k + 1) := by
        rw [BitVec.add_assoc, Nat.add_comm k, BitVec.ofNat_add]; rfl
      rw [this]

end Sys2Proof.Machine
end

