-- ==== Sys2Proof/Laws/Decode.lean ====
section
/-! SUPPORT. Laws of bit sequences in air order: lengths, values and fields, which the decoder's proofs cite. -/

namespace Sys2Proof

@[simp] theorem bitsOf_length (n v : Nat) : (bitsOf n v).length = n := by
  induction n with
  | zero => rfl
  | succ n ih => simp [bitsOf, ih]

/-- `msb_first` continued from a value already read. -/
theorem msbFirst_append (a b : List Bool) : msbFirst (a ++ b) = msbFirst a * 2 ^ b.length + msbFirst b := by
  have h : ∀ (l : List Bool) (acc : Nat),
      l.foldl (fun acc b => 2 * acc + b.toNat) acc = acc * 2 ^ l.length + msbFirst l := by
    intro l
    induction l with
    | nil => intro acc; simp [msbFirst]
    | cons x l ih =>
      intro acc
      simp only [msbFirst, List.foldl_cons, List.length_cons, ih (2 * acc + x.toNat), ih (2 * 0 + x.toNat)]
      ring
  simp only [msbFirst, List.foldl_append]
  exact h b _

/-- The value of an `n`-bit sequence of `v` is `v` modulo `2^n`. -/
@[simp] theorem msbFirst_bitsOf (n v : Nat) : msbFirst (bitsOf n v) = v % 2 ^ n := by
  induction n with
  | zero => simp [bitsOf, msbFirst, Nat.mod_one]
  | succ n ih =>
    have h : bitsOf (n + 1) v = [v.testBit n] ++ bitsOf n v := rfl
    rw [h, msbFirst_append, ih, bitsOf_length, Nat.mod_pow_succ, ← Nat.toNat_testBit]
    simp [msbFirst]
    ring

/-- A value read from `n` bits is below `2^n`. -/
theorem msbFirst_lt (l : List Bool) : msbFirst l < 2 ^ l.length := by
  induction l with
  | nil => simp [msbFirst]
  | cons x l ih =>
    have h := msbFirst_append [x] l
    simp only [List.singleton_append] at h
    rw [h, List.length_cons, pow_succ]
    cases x <;> simp [msbFirst] at * <;> omega

/-- A bit sequence is the bits of its value. -/
theorem bitsOf_msbFirst (l : List Bool) : bitsOf l.length (msbFirst l) = l := by
  have drop : ∀ (n v k m : Nat), v < 2 ^ n → m ≤ n → bitsOf m (2 ^ n * k + v) = bitsOf m v := by
    intro n v k m hv
    induction m with
    | zero => intro _; rfl
    | succ m ih =>
      intro hm
      simp only [bitsOf]
      rw [ih (by omega), Nat.testBit_two_pow_mul_add k hv, if_pos (by omega)]
  induction l with
  | nil => rfl
  | cons x l ih =>
    have h := msbFirst_append [x] l
    simp only [List.singleton_append] at h
    have hx : msbFirst [x] = x.toNat := by simp [msbFirst]
    rw [List.length_cons, bitsOf, h, hx, mul_comm, drop _ _ _ _ (msbFirst_lt l) le_rfl, ih,
      Nat.testBit_two_pow_mul_add _ (msbFirst_lt l)]
    cases x <;> simp

/-- A field that starts after a run of bits does not see them. -/
theorem fieldAt_skip (m v : Nat) (l : List Bool) (k n : Nat) (h : m ≤ k) :
    fieldAt (bitsOf m v ++ l) k n = fieldAt l (k - m) n := by
  simp [fieldAt, List.drop_append, List.drop_eq_nil_of_le, h]

/-- A field at the start of a sequence is the run of bits that stands there. -/
theorem fieldAt_here (n v : Nat) (l : List Bool) : fieldAt (bitsOf n v ++ l) 0 n = v % 2 ^ n := by
  simp [fieldAt]

/-- A field that is a whole sequence. -/
theorem fieldAt_whole (n v : Nat) : fieldAt (bitsOf n v) 0 n = v % 2 ^ n := by
  simpa using fieldAt_here n v []

/-- A field that starts after the first bit does not see it. -/
theorem fieldAt_cons (b : Bool) (l : List Bool) (k n : Nat) : fieldAt (b :: l) (k + 1) n = fieldAt l k n := rfl

end Sys2Proof
end

