-- ==== Sys2Proof/Laws/Host.lean ====
section
/-! SUPPORT. What validation guarantees, and everything START, STOP and the bus writes can do. -/

namespace Sys2Proof.Machine

variable (s : State)

/-- When no check of a list fails, every check of it passes. -/
theorem firstFailing_eq_zero (l : List (Nat × Bool)) (hn : ∀ p ∈ l, p.1 ≠ 0) (h : firstFailing l = 0) :
    ∀ p ∈ l, p.2 = false := by
  induction l with
  | nil => simp
  | cons p r ih =>
    obtain ⟨n, b⟩ := p
    simp only [firstFailing] at h
    split at h
    · exact absurd h (hn (n, b) (by simp))
    · simp only [List.mem_cons, forall_eq_or_imp] at *
      exact ⟨by simpa using ‹¬ b = true›, ih hn.2 h⟩

/-- What a configuration that passes validation satisfies (rule R294). -/
theorem validate_bounds (p : Params) (c : Cfg) (h : validate p c = 0) :
    1 ≤ c.minLen.toNat ∧ c.minLen.toNat ≤ c.maxLen.toNat ∧ c.maxLen.toNat ≤ p.fbDepth ∧ 1 ≤ c.hold.toNat ∧
    c.gateKoff.toNat ≤ c.gateKon.toNat ∧ 1 ≤ c.decSph.toNat ∧ 268 * c.decSph.toNat ≤ c.maxLen.toNat ∧
    c.preThr.toNat ≤ 16 ∧ c.ambFrac.toNat ≤ 16 ∧ 1 ≤ c.ambRun.toNat ∧ 1 ≤ c.maxRounds.toNat ∧ 1 ≤ c.tSlot.toNat ∧
    (c.selEn.toNat = 1 → c.length.toNat ≤ 32) := by
  have h := firstFailing_eq_zero _ (by simp [validationChecks]) h
  simp only [validationChecks, List.mem_cons, forall_eq_or_imp, decide_eq_false_iff_not, Bool.and_eq_false_iff,
    List.not_mem_nil, false_imp_iff, forall_const] at h
  omega

/-- Everything START can do (rule R293). -/
theorem start_cases :
    (s.rdr.rstate ≠ .done ∧ start s = raise .wrIgn s) ∨
    (s.rdr.rstate = .done ∧ validate s.par s.cfg ≠ 0 ∧ start s =
      raise .cfgErr { s with cfgErr := true, cfgErrCode := BitVec.ofNat 4 (validate s.par s.cfg) }) ∨
    (s.rdr.rstate = .done ∧ validate s.par s.cfg = 0 ∧ start s = startInit s) := by
  unfold start
  split
  · exact .inl ⟨‹_›, rfl⟩
  · have hd : s.rdr.rstate = .done := by simpa using ‹¬ s.rdr.rstate ≠ .done›
    dsimp only
    split
    · exact .inr (.inl ⟨hd, ‹_›, rfl⟩)
    · exact .inr (.inr ⟨hd, by simpa using ‹¬ validate s.par s.cfg ≠ 0›, rfl⟩)

/-- Everything STOP can do (rule R296). -/
theorem stop_cases :
    (s.rdr.rstate = .done ∧ stop s = s) ∨
    (s.rdr.rstate ≠ .done ∧ stop s = { s with rdr := { s.rdr with stopReq := true } }) := by
  unfold stop; split <;> simp_all

/-- Everything a write in the configuration range can do (rules R44, R82, R290). -/
theorem writeConfig_cases (addr : BitVec 12) (data : BitVec 32) :
    (misaligned addr = true ∧ writeConfig addr data s = raise .busErr s) ∨
    (misaligned addr = false ∧ storeConfig s.cfg addr.toNat data = none ∧ writeConfig addr data s = s) ∨
    (misaligned addr = false ∧ s.rdr.rstate = .done ∧ ∃ c, storeConfig s.cfg addr.toNat data = some c ∧
      writeConfig addr data s = { s with cfg := c }) ∨
    (misaligned addr = false ∧ s.rdr.rstate ≠ .done ∧ (∃ c, storeConfig s.cfg addr.toNat data = some c) ∧
      writeConfig addr data s = raise .wrIgn s) := by
  unfold writeConfig
  split
  · exact .inl ⟨‹_›, rfl⟩
  · have hm : misaligned addr = false := by simpa using ‹¬ misaligned addr = true›
    split
    · exact .inr (.inl ⟨hm, ‹_›, rfl⟩)
    · split
      · exact .inr (.inr (.inl ⟨hm, ‹_›, _, ‹_›, rfl⟩))
      · exact .inr (.inr (.inr ⟨hm, ‹_›, ⟨_, ‹_›⟩, rfl⟩))

/-- Everything a write of `CTRL` can do (rules R42, R297). -/
theorem writeCtrl_cases (data : BitVec 32) :
    (data.getLsbD 1 = true ∧ writeCtrl data s = stop s) ∨
    (data.getLsbD 1 = false ∧ data.getLsbD 0 = true ∧ writeCtrl data s = start s) ∨
    (data.getLsbD 1 = false ∧ data.getLsbD 0 = false ∧ writeCtrl data s = s) := by
  unfold writeCtrl; cases data.getLsbD 1 <;> cases data.getLsbD 0 <;> simp

/-- Everything a bus write can do (rule R290). -/
theorem busWrite_cases (addr : BitVec 12) (data : BitVec 32) :
    (misaligned addr = true ∧ busWrite addr data s = raise .busErr s) ∨
    (misaligned addr = false ∧ addr = 0x008 ∧ busWrite addr data s = writeCtrl data s) ∨
    (misaligned addr = false ∧ addr = 0x010 ∧ busWrite addr data s = clearPending data s) ∨
    (misaligned addr = false ∧ addr = 0x014 ∧ busWrite addr data s = writeIrqEn data s) ∨
    (misaligned addr = false ∧ 0x020 ≤ addr.toNat ∧ addr.toNat ≤ 0x07C ∧
      busWrite addr data s = writeConfig addr data s) ∨
    (misaligned addr = false ∧ addr ≠ 0x008 ∧ addr ≠ 0x010 ∧ addr ≠ 0x014 ∧
      ¬ (0x020 ≤ addr.toNat ∧ addr.toNat ≤ 0x07C) ∧ busWrite addr data s = s) := by
  unfold busWrite
  split
  · exact .inl ⟨‹_›, rfl⟩
  have hm : misaligned addr = false := by simpa using ‹¬ misaligned addr = true›
  split
  · exact .inr (.inl ⟨hm, ‹_›, rfl⟩)
  split
  · exact .inr (.inr (.inl ⟨hm, ‹_›, rfl⟩))
  split
  · exact .inr (.inr (.inr (.inl ⟨hm, ‹_›, rfl⟩)))
  split
  · exact .inr (.inr (.inr (.inr (.inl ⟨hm, ‹_ ∧ _›.1, ‹_ ∧ _›.2, rfl⟩))))
  · exact .inr (.inr (.inr (.inr (.inr ⟨hm, ‹_›, ‹_›, ‹_›, ‹_›, rfl⟩))))

end Sys2Proof.Machine
end

