-- ==== Sys2Proof/Laws/PerInstr.lean ====
section
/-! SUPPORT. The per-instruction family `EncodedLength`: how many Command or reply bits an instruction's encoding carries
(rules R134 to R138, R152, R153, R162); an event's encoding carries none. -/

namespace Sys2Proof.Laws

/-- The Command or reply bits of a piece of port activity. -/
def itemLength : Item → Nat
  | .cycle _ => 0
  | .command bits => bits.length
  | .reply bits _ _ => bits.length

/-- The Command or reply bits of an instruction, as the rules count them. -/
def instrLength : Instr → Nat
  | .query _ _ _ _ _ _ => 22
  | .queryRep _ => 4
  | .queryAdjust _ _ => 9
  | .ack _ => 18
  | .select _ _ _ _ length _ _ _ => 45 + length.toNat
  | .replyRn16 _ _ _ => 16
  | .replyId _ _ _ _ _ => 128
  | .reset => 0
  | .busWrite _ _ => 0
  | .busRead _ => 0
  | .busWriteRead _ _ => 0
  | .txDone => 0
  | .sample _ _ _ => 0
  | .ctrlStart _ => 0
  | .ctrlStop _ => 0
  | .ctrlStartStop _ => 0
  | .ctrlNop _ => 0
  | .irqPendW1C _ => 0
  | .irqEnWrite _ => 0
  | .configWriteLo _ _ => 0
  | .configWriteHi _ _ => 0

namespace EncodedLength

/-- The encoding has the length the rules give. -/
def Statement (i : Instr) : Prop := itemLength (encode i) = instrLength i

theorem reset : Statement .reset := rfl
theorem busWrite (a : BitVec 12) (d : BitVec 32) : Statement (.busWrite a d) := rfl
theorem busRead (a : BitVec 12) : Statement (.busRead a) := rfl
theorem busWriteRead (a : BitVec 12) (d : BitVec 32) : Statement (.busWriteRead a d) := rfl
theorem txDone : Statement .txDone := rfl
theorem sample (n : BitVec 32) (i q : BitVec 16) : Statement (.sample n i q) := rfl
theorem ctrlStart (r : BitVec 30) : Statement (.ctrlStart r) := rfl
theorem ctrlStop (r : BitVec 30) : Statement (.ctrlStop r) := rfl
theorem ctrlStartStop (r : BitVec 30) : Statement (.ctrlStartStop r) := rfl
theorem ctrlNop (r : BitVec 30) : Statement (.ctrlNop r) := rfl
theorem irqPendW1C (d : BitVec 32) : Statement (.irqPendW1C d) := rfl
theorem irqEnWrite (d : BitVec 32) : Statement (.irqEnWrite d) := rfl
theorem configWriteLo (o : BitVec 5) (d : BitVec 32) : Statement (.configWriteLo o d) := rfl
theorem configWriteHi (o : BitVec 6) (d : BitVec 32) : Statement (.configWriteHi o d) := rfl
theorem query (d : BitVec 1) (l s : BitVec 2) (t : BitVec 1) (q : BitVec 4) (c : BitVec 5) :
    Statement (.query d l s t q c) := rfl
theorem queryRep (s : BitVec 2) : Statement (.queryRep s) := rfl
theorem queryAdjust (s : BitVec 2) (u : BitVec 3) : Statement (.queryAdjust s u) := rfl
theorem ack (rn : BitVec 16) : Statement (.ack rn) := rfl
theorem select (t a : BitVec 3) (b : BitVec 2) (p : BitVec 7) (l : BitVec 6) (m : BitVec 32) (k : BitVec 1)
    (c : BitVec 16) : Statement (.select t a b p l m k c) := by
  simp [Statement, encode, itemLength, instrLength, selectBits, selectBody]; omega
theorem replyRn16 (rn hi lo : BitVec 16) : Statement (.replyRn16 rn hi lo) := by
  simp [Statement, encode, itemLength, instrLength]
theorem replyId (pc : BitVec 16) (epc : BitVec 96) (crc hi lo : BitVec 16) : Statement (.replyId pc epc crc hi lo) := by
  simp [Statement, encode, itemLength, instrLength, replyIdBits]

end EncodedLength

end Sys2Proof.Laws
end

