-- ==== Sys2Proof/Tests/Slice0.lean ====
section
/-! SUPPORT. Tests: ill-formed terms refused, words written out from the spec's encodings, the spec's own examples, and for
every statement with hypotheses a concrete state and operands that meet them (`witness_…`). Expected values come from the
examples of the rules named beside them. -/

namespace Sys2Proof.Tests

open Sys2Proof.Machine

-- One theorem at a time: the kernel evaluations below would otherwise each hold a thread of their own.
set_option Elab.async false

/-! ### Helpers -/

/-- A running block in the given Reader state, first round, four slots left. -/
def running (r : RState) (busy : Bool) : State :=
  { State.reset with rdr := { State.reset.rdr with rstate := r, txBusy := busy, slotsRem := 4, roundNo := 1 } }

/-- Listening for a slot's reply. -/
def waiting : State := running .awaitSlotReply false

/-- Transmitting a slot's Command. -/
def sending : State := running .awaitSlotReply true

/-- A state with an open frame of one sample. -/
def framed (s : State) (kind : FrameKind) (len below : BitVec 16) : State :=
  { s with gate := { s.gate with gstate := .inFrame, gLen := len, gLastHi := 1, gBelow := below, gKind := kind } }

/-- A listening block of one sample a half-symbol whose open frame holds the whole reply `rn`, one low sample short of its
fall. -/
def heard (rn : BitVec 16) : State :=
  let levels := fm0Halves (bitsOf 16 rn.toNat)
  let s := { waiting with
    cfg := { Cfg.reset with decSph := 1, minLen := 3, hold := 4 }
    mem := { State.reset.mem with fb := levels.zipIdx.map fun (p : Bool × Nat) => (p.2, { i := if p.1 then 100 else 10, q := 0 }) } }
  { s with gate := { s.gate with gstate := .inFrame, gLen := 49, gLastHi := 46, gBelow := 3, gKind := .tagReply } }

/-- The next state of an outcome, or the reset state where there is none. -/
def after (o : Host.Outcome State Fault Refusal) : State :=
  match o with
  | .next s => s
  | .fault _ => State.reset
  | .refused _ => State.reset

/-! ### Well-formedness -/

theorem test_wf_refuses_ctrl_busWrite : (Instr.busWrite 0x008 1).wellFormed = false := by decide
theorem test_wf_refuses_irqPend_busWrite : (Instr.busWrite 0x010 1).wellFormed = false := by decide
theorem test_wf_refuses_irqEn_busWrite : (Instr.busWrite 0x014 1).wellFormed = false := by decide
theorem test_wf_refuses_config_busWrite : (Instr.busWrite 0x020 1).wellFormed = false ∧
    (Instr.busWrite 0x07F 1).wellFormed = false := by decide
theorem test_wf_accepts_plain_busWrite : (Instr.busWrite 0x009 1).wellFormed = true ∧
    (Instr.busWrite 0x01F 1).wellFormed = true ∧ (Instr.busWrite 0x080 1).wellFormed = true := by decide
theorem test_wf_refuses_long_select : (Instr.select 0 0 0 0 33 0 0 0).wellFormed = false := by decide
theorem test_wf_refuses_wide_mask : (Instr.select 0 0 0 0 8 0x100 0 0).wellFormed = false := by decide

/-! ### Decoding: each constructor from a word written out from its encoding -/

/-- Rules R110 to R115: the control vector `{rst, bus_wr, bus_rd, tx_done, s_valid}`. -/
theorem test_decode_events :
    decodeTableWord 8 0b10000 = some .reset ∧ decodeTableWord 8 0b00100 = some (.busRead 0) ∧
    decodeTableWord 8 0b01100 = some (.busWriteRead 0 0) ∧ decodeTableWord 8 0b00010 = some .txDone ∧
    decodeTableWord 8 0b00001 = some (.sample 0 0 0) ∧ decodeTableWord 48 0x000000000001 = some (.busWrite 0 1) := by
  decide +kernel

/-- Rule R113: the operands of a bus access come from the address and data pins. -/
theorem test_decode_operands :
    decodeItem (.cycle { ctl := 0b00100, addr := 0x400, wdata := 7, sIdx := 0, sI := 0, sQ := 0 }) =
      .ok (.busRead 0x400, none) ∧
    decodeItem (.cycle { ctl := 0b00001, addr := 0, wdata := 0, sIdx := 41, sI := 0xFFFF, sQ := 2 }) =
      .ok (.sample 41 0xFFFF 2, none) := ⟨rfl, rfl⟩

/-- Rules R290, R42, R53, R54, R44: `{addr[11:0], data[31:0]}`. -/
theorem test_decode_host_writes :
    decodeTableWord 48 0x00800000001 = some (.ctrlStart 0) ∧ decodeTableWord 48 0x00800000002 = some (.ctrlStop 0) ∧
    decodeTableWord 48 0x00800000007 = some (.ctrlStartStop 1) ∧ decodeTableWord 48 0x00800000004 = some (.ctrlNop 1) ∧
    decodeTableWord 48 0x010000001FF = some (.irqPendW1C 0x1FF) ∧
    decodeTableWord 48 0x01400000003 = some (.irqEnWrite 3) ∧
    decodeTableWord 48 0x03800002000 = some (.configWriteLo 0x18 0x2000) ∧
    decodeTableWord 48 0x07C00000001 = some (.configWriteHi 0x3C 1) := by decide +kernel

/-- Rule R134, the example's bits `1000 0 00 0 00 00 0 0010 00010`. -/
theorem test_decode_query :
    decodeCommand [true, false, false, false, false, false, false, false, false, false, false, false, false,
      false, false, true, false, false, false, false, true, false] = .ok (.query 0 0 0 0 2 2) ∧
    decodeTableWord 24 0x200042 = some (.query 0 0 0 0 2 2) := by decide +kernel

/-- Rule R134: each field of a `QUERY` apart. -/
theorem test_decode_query_fields :
    decodeTableWord 24 0b1000100011001111100000 = some (.query 1 3 0 1 15 0) ∧
    decodeTableWord 24 0b1000000000110000011111 = some (.query 0 0 3 0 0 31) := by decide +kernel

/-- Rule R135: `00 nn`. -/
theorem test_decode_queryRep :
    decodeCommand [false, false, true, false] = .ok (.queryRep 2) ∧ decodeTableWord 8 0 = some (.queryRep 0) := by
  decide

/-- Rule R136: `1001 nn uuu`, `uuu = 110` for Q+1. -/
theorem test_decode_queryAdjust :
    decodeCommand [true, false, false, true, false, true, true, true, false] = .ok (.queryAdjust 1 6) ∧
    decodeTableWord 16 0b100101110 = some (.queryAdjust 1 6) := by decide +kernel

/-- Rule R137: RN16 0x1234 gives the word 0x11234. -/
theorem test_decode_ack : decodeTableWord 24 0x11234 = some (.ack 0x1234) := by decide +kernel

/-- Rule R138's two examples. -/
theorem test_decode_select :
    decodeTableWord 56 0x150240114A7BCA = some (.select 4 0 1 32 8 0xA5 0 0x7BCA) ∧
    decodeTableWord 48 0x150240002B29 = some (.select 4 0 1 32 0 0 0 0x2B29) := by decide +kernel

/-- Rules R152, R153 and the example of rule R209. -/
theorem test_decode_replies :
    decodeTableWord 16 0x1234 = some (.replyRn16 0x1234 0 0) ∧
    decodeTableWord 128 0x3000E2003412013C0000000000FFD5F4 =
      some (.replyId 0x3000 0xE2003412013C0000000000FF 0xD5F4 0 0) := by decide +kernel

/-- Rules R134, R138, R139: no neighbour takes a pattern that is not its own. -/
theorem test_decode_refuses :
    decodeCommand (bitsOf 22 0x210042) = .error .queryHardwiredBits ∧
    decodeCommand (bitsOf 8 0xC0) = .error .commandPattern ∧ decodeCommand [] = .error .commandPattern ∧
    decodeCommand (bitsOf 18 0x11234 ++ [false]) = .error .commandPattern ∧
    decodeCommand (bitsOf 45 0x150380002B29) = .error .selectFixedBits := by decide +kernel

/-! ### The spec's examples -/

/-- Rule R140: the bytes "123456789" give 0. -/
theorem test_crc5_check : crc5 (bitsOf 72 0x313233343536373839) = 0 := by decide +kernel

/-- Rule R141: the bytes "123456789" give 0xD64E; rule R209's identifier gives 0xD5F4. -/
theorem test_crc16_check :
    crc16 (bitsOf 72 0x313233343536373839) = 0xD64E ∧
    crc16 (bitsOf 112 0x3000E2003412013C0000000000FF) = 0xD5F4 := by decide +kernel

/-- Rule R150: bits `1, 0` give `PRE ++ [-1, -1, +1, -1] ++ [+1, +1]`. -/
theorem test_fm0_example :
    fm0Halves [true, false] = preamble ++ [false, false, true, false, true, true] := by decide

/-- Rule R173: `en = 60` and `en = 63` at `NF = 100`, `NF_SHIFT = 2` give `NF = 90`. -/
theorem test_noise_floor : nfUpdate 100 2 60 = 90 ∧ nfUpdate 100 2 63 = 90 ∧ nfUpdate 100 2 100 = 100 := by decide

/-- Rule R170: `I = Q = -32768` gives the largest energy, 2^31. -/
theorem test_energy_extreme : energy 0x8000 0x8000 = 2 ^ 31 ∧ energy 0xFFFF 2 = 5 := by decide

/-- Rule R172: `NF = 100` gives `thr_on = 200` and `thr_off = 150`. -/
theorem test_thresholds : threshold 100 32 0 = 200 ∧ threshold 100 24 0 = 150 := by decide

/-- Rule R212 and rule R201: a gap frame gives `DEC_LAST = 0x10`. -/
theorem test_gap_latch : (Decoded.noReply .gapFrame).latch = 0x10 := by decide

/-- Rule R204: the 12 energies of the preamble, 100 and 10, give `C(0) = M(0) = 6480`. -/
theorem test_preamble_correlation :
    correlation [100, 100, 10, 100, 10, 10, 100, 10, 10, 10, 100, 100] 660 1 0 = 6480 ∧
    magnitude [100, 100, 10, 100, 10, 10, 100, 10, 10, 10, 100, 100] 660 1 0 = 6480 := by decide

/-- Rules R208, R206: 43 samples of the reply are truncated, 44 are decoded. -/
theorem test_payload_length :
    (decodeEnergies { Cfg.reset with decSph := 1 } .tagReply ((idealEnergies 1 100 10 (bitsOf 16 0x1234)).take 43)
      .rn16).reason = .truncated ∧
    (decodeEnergies { Cfg.reset with decSph := 1 } .tagReply ((idealEnergies 1 100 10 (bitsOf 16 0x1234)).take 44)
      .rn16).rn = 0x1234 := by decide +kernel

/-- Rule R294: `MIN_LEN = 0` together with `T_SLOT = 0` gives 1; `DEC_SPH = 0` gives 6 (rule R293). -/
theorem test_validate_order :
    validate Params.thisHardware { Cfg.reset with minLen := 0, tSlot := 0 } = 1 ∧ validate Params.thisHardware { Cfg.reset with decSph := 0 } = 6 := by decide

/-- Rules R6, R294: an instance with a smaller frame buffer refuses the reset `MAX_LEN`, check 3. -/
theorem test_validate_depth : validate { fbDepth := 8191, idCap := 64 } Cfg.reset = 3 := by decide

/-- Rules R6, R32, R258: an instance with one identifier entry is full after one. -/
theorem test_idCap :
    idFull (recordId 0x3000 5 { waiting with par := { fbDepth := 8192, idCap := 1 } }) = true ∧
    (recordId 0x3000 6 (recordId 0x3000 5 { waiting with par := { fbDepth := 8192, idCap := 1 } })).irqPend = 0x24 := by
  decide

/-- Rules R110, R33: a Command presented in `DONE` does nothing; a `QUERY` where a round opens is START's own. -/
theorem test_presented_commands :
    exec (.query 0 0 0 0 2 2) State.reset = .next State.reset ∧ exec (.ack 5) waiting = .next waiting ∧
    (after (exec (.query 0 0 0 0 2 2) (running .roundStart false))).outs =
      [.cmd { kind := 1, word := 0x200042, len := 22, pre := 1, timing := 0 }] ∧
    (after (exec (.query 0 0 0 0 2 3) (running .roundStart false))).outs = [] := by
  exact ⟨rfl, rfl, by decide +kernel, by decide +kernel⟩

/-- Rule R166: a reply's first two samples at one sample a half-symbol, after index 41. -/
theorem test_reply_samples :
    (after (exec (.replyRn16 0x1234 100 10) { heard 0 with haveLast := true, lastIdx := 41 })).inputs.length = 46 ∧
    (after (exec (.replyRn16 0x1234 100 10) { heard 0 with haveLast := true, lastIdx := 41 })).inputs.take 3 =
      [.cycle { cycleOf 1 with sIdx := 42, sI := 100 }, .cycle { cycleOf 1 with sIdx := 43, sI := 100 },
       .cycle { cycleOf 1 with sIdx := 44, sI := 10 }] := by decide +kernel

/-- Rule R292: `IRQ_PEND = 0x003` and a write of 0x001 leaves 0x002. -/
theorem test_irqPend : (after (exec (.irqPendW1C 1) { State.reset with irqPend := 3 })).irqPend = 2 := by decide

/-- Rule R290: in `DONE` the write sets `RDR_Q`; while running it sets `WR_IGN` and leaves it. -/
theorem test_configWriteHi :
    (after (exec (.configWriteHi 0x20 4) State.reset)).cfg.rdrQ = 4 ∧
    (after (exec (.configWriteHi 0x20 4) waiting)).cfg.rdrQ = 2 ∧
    (after (exec (.configWriteHi 0x20 4) waiting)).irqPend = 0x40 := by decide

/-- Rule R291: the first reads after reset. -/
theorem test_reads_after_reset :
    readRegister State.reset 0x000 = 0x47325244 ∧ readRegister State.reset 0x00C = 0 ∧
    readRegister State.reset 0x038 = 0x00002000 ∧ readRegister State.reset 0x03C = 0x80 := by decide

/-- Rule R295: START with the reset configuration. -/
theorem test_start : (after (exec (.ctrlStart 0) State.reset)).outs =
    [.cmd { kind := 1, word := 0x200042, len := 22, pre := 1, timing := 0 }] ∧
    status (after (exec (.ctrlStart 0) State.reset)) = 0x442 := by decide +kernel

/-- Rule R244: the Select of a round's start. -/
theorem test_select_round :
    (after (exec (.ctrlStart 0) { State.reset with
      cfg := { Cfg.reset with selCfg := 0x084089, selMask := 0xA5 } })).outs =
      [.cmd { kind := 5, word := 0x150240114A7BCA, len := 53, pre := 0, timing := 0 }] := by decide +kernel

/-- Rule R252: a heard RN16 0x1234 is acknowledged with the word 0x11234. -/
theorem test_ack_emitted :
    (after (exec (.sample 0 0 0) (heard 0x1234))).outs =
      [.cmd { kind := 4, word := 0x11234, len := 18, pre := 0, timing := 0 }] ∧
    (after (exec (.sample 0 0 0) (heard 0x1234))).rdr.lastHandle = 0x1234 ∧
    (after (exec (.sample 0 0 0) (heard 0x1234))).dec = { last := 5, lastT := 0, lastRn := 0x1234 } := by
  decide +kernel

/-- Rule R255: at `T_SLOT = 1000` an EMPTY slot and the `QUERYREP` of session 0. -/
theorem test_timeout :
    (after (exec (.sample 0 0 0) { waiting with rdr := { waiting.rdr with tWait := 999 } })).tally.tEmpty = 1 ∧
    (after (exec (.sample 0 0 0) { waiting with rdr := { waiting.rdr with tWait := 999 } })).outs =
      [.cmd { kind := 2, word := 0, len := 4, pre := 0, timing := 0 }] := by decide

/-- Rule R179: `LAST_IDX = 41`, `idx = 45` counts one and discards an open frame. -/
theorem test_discontinuity :
    (after (exec (.sample 45 0 0) { framed waiting .tagReply 5 0 with lastIdx := 41, haveLast := true })).irqPend = 8 ∧
    (after (exec (.sample 45 0 0) { framed waiting .tagReply 5 0 with lastIdx := 41, haveLast := true })).gate.gstate =
      .idle := by decide

/-- Rule R262: the header of round 1, slot 0, a frame of 44 samples at index 120. -/
theorem test_debug_record :
    (debugRecord { kind := .tagReply, start := 120, len := 44, forced := false } waiting).take 20 =
      [1, 0, 0, 0, 0, 0, 0, 0, 0, 0, 0, 0, 0x78, 0, 0, 0, 0x2C, 0, 0, 0] := by decide +kernel

/-! ### Witnesses of the statements' hypotheses -/

theorem inv_reset : Inv State.reset := by constructor <;> decide
theorem inv_waiting : Inv waiting := by constructor <;> decide
theorem inv_sending : Inv sending := by constructor <;> decide
theorem inv_selecting : Inv (running .roundStart true) := by constructor <;> decide
theorem inv_acking : Inv (running .ackSequence false) := by constructor <;> decide
theorem inv_framed : Inv (framed waiting .tagReply 1 0) := by constructor <;> decide
theorem inv_gap : Inv (framed sending .r2tGap 8191 127) := by constructor <;> decide
theorem inv_heard : Inv (heard 0x1234) := by constructor <;> decide +kernel

theorem witness_StepRunsDecodedInstruction :
    ({ State.reset with inputs := [.cycle (cycleOf 3), .command []] }).inputs = .cycle (cycleOf 3) :: [.command []] ∧
    decodeItem (.cycle (cycleOf 3)) = .ok (.txDone, some (.cycle (cycleOf 1))) := ⟨rfl, rfl⟩

theorem witness_StepWithoutInstruction :
    State.reset.inputs = [] ∧ decodeItem (.cycle (cycleOf 0)) = .error .idleCycle ∧
    decodeItem (.command []) = .error .commandPattern ∧ DecodeError.commandPattern ≠ .idleCycle := by decide

theorem witness_CycleEventsInOrder :
    eventsOf (cycleOf 0b01111) = .busWriteRead 0 0 :: [.txDone, .sample 0 0 0] ∧
    eventsOf (cycleOf 0b11111) = .reset :: [] ∧ eventsOf (cycleOf 1) = .sample 0 0 0 :: [] := by decide

theorem witness_DecodeEncodeRoundTrip :
    (Instr.busWrite 0x01F 5).wellFormed = true ∧ (Instr.select 7 7 3 127 32 0xFFFFFFFF 1 0).wellFormed = true ∧
    (Instr.select 7 7 3 127 0 0 1 0).wellFormed = true := by decide

theorem witness_CommandDecodingIsExact :
    decodeCommand (bitsOf 77 0x142040200000000A0000) = .ok (.select 0 4 1 2 32 0x80000002 1 0x4000) ∨
    decodeCommand (bitsOf 18 0x11234) = .ok (.ack 0x1234) := by decide +kernel

theorem witness_QueryEmission :
    (running .roundStart false).rdr.rstate = .roundStart ∧ (running .roundStart false).rdr.txBusy = false ∧
    (running .roundStart false).rdr.stopReq = false ∧ (running .roundStart false).cfg.rdrQ = 2 ∧
    (2 : BitVec 5) = crc5 (bitsOf 17 ((queryWord 0 0 0 0 2 0).toNat / 2 ^ 5)) ∧ waiting.rdr.rstate ≠ .roundStart := by
  decide +kernel

theorem witness_QueryRepEmission :
    (running .slotEmpty false).rdr.rstate = .slotEmpty ∧ (running .slotEmpty false).rdr.txBusy = false ∧
    (running .slotEmpty false).rdr.stopReq = false ∧ (running .slotEmpty false).rdr.slotsRem ≠ 0 ∧
    (0 : BitVec 2) = (running .slotEmpty false).cfg.qryCfg.extractLsb' 6 2 ∧ State.reset.rdr.rstate ≠ .slotEmpty := by
  decide

theorem witness_AckEmission :
    (running .slotSuccess false).mem.wf = true ∧ (running .slotSuccess false).rdr.rstate = .slotSuccess ∧
    (running .slotSuccess false).rdr.txBusy = false ∧ (running .slotSuccess false).mem.readHb 0x1234 = false ∧
    waiting.rdr.rstate ≠ .slotSuccess := by decide +kernel

theorem witness_SelectEmission :
    (let s := { running .roundStart false with cfg := { Cfg.reset with selCfg := 0x084089, selMask := 0xA5 } }
     s.rdr.rstate = .roundStart ∧ s.rdr.txBusy = false ∧ s.rdr.stopReq = false ∧
     s.cfg.selCfg.extractLsb' 0 1 = 1 ∧ s.cfg.selCfg.extractLsb' 1 3 = 4 ∧ s.cfg.selCfg.extractLsb' 4 3 = 0 ∧
     s.cfg.selCfg.extractLsb' 7 2 = 1 ∧ s.cfg.selCfg.extractLsb' 9 7 = 32 ∧ s.cfg.selCfg.extractLsb' 16 6 = 8 ∧
     s.cfg.selCfg.extractLsb' 22 1 = 0) ∧
    (0x7BCA : BitVec 16) = crc16 (bitsOf 37 ((selectWord 4 0 1 32 8 0xA5 0 0).toNat / 2 ^ 16)) := by decide +kernel

theorem witness_NoEffectInstructions :
    isCommand (.ack 5) = true ∧ Inv waiting ∧ Inv { waiting with inputs := [.command (ackBits 5)] } ∧
    (∃ t, step { waiting with inputs := [.command (ackBits 5)] } = .next t) ∧
    Inv { waiting with inputs := [.reply (bitsOf 16 5) 100 10] } ∧
    ∃ t, step { waiting with inputs := [.reply (bitsOf 16 5) 100 10] } = .next t :=
  ⟨by decide, inv_waiting, by constructor <;> decide, ⟨_, rfl⟩, by constructor <;> decide, ⟨_, rfl⟩⟩

theorem witness_RoundBegin :
    ({ waiting with rdr := { waiting.rdr with stopReq := true } }).rdr.stopReq = true ∧
    ({ waiting with rdr := { waiting.rdr with roundNo := 1000 } }).cfg.maxRounds.toNat ≤
      ({ waiting with rdr := { waiting.rdr with roundNo := 1000 } }).rdr.roundNo.toNat ∧
    ({ waiting with rdr := { waiting.rdr with roundNo := 999 } }).rdr.roundNo.toNat < waiting.cfg.maxRounds.toNat ∧
    waiting.rdr.stopReq = false ∧ waiting.cfg.selEn = 0 ∧ ({ Cfg.reset with selCfg := 1 }).selEn = 1 := by decide

theorem witness_EndSlot :
    ({ waiting.rdr with slotsRem := 1 }).slotsRem.toNat = 1 ∧
    ({ waiting.rdr with slotsRem := 2, stopReq := true }).slotsRem.toNat = 2 ∧
    ({ waiting.rdr with slotsRem := 2 }).stopReq = false ∧ 1 ≤ waiting.rdr.slotsRem.toNat := by decide

theorem witness_Classification :
    waiting.rdr.rstate = .awaitSlotReply ∧ (running .ackSequence false).rdr.rstate = .ackSequence ∧
    (Decoded.noReply .noPeak).kind = .noReply ∧ (Decoded.collision .truncated 0).kind = .collisionOrNoise ∧
    waiting.mem.wf = true ∧ (rn16Result (bitsOf 16 0x1234) 0).kind = .randomNumber ∧ (waiting.mem.setHb 0x1234).readHb 0x1234 = true ∧
    waiting.mem.readHb 0x1234 = false ∧
    (idResult (bitsOf 128 0x3000E2003412013C0000000000FFD5F4) 0).kind = .identifierReply ∧
    (idResult (bitsOf 128 0x3000E2003412013C0000000000FFD5F4) 0).valid = true ∧
    (idResult (bitsOf 128 0x3000E2003412013C0000000000FFD5F5) 0).valid = false := by decide +kernel

theorem witness_RecordIdentifier :
    waiting.mem.wf = true ∧
    (∃ k < ({ waiting.tally with tDistinct := 1 }).tDistinct.toNat, (waiting.mem.readId k).epc = 0) ∧
    (∀ k < ({ waiting.tally with tDistinct := 64 }).tDistinct.toNat, (waiting.mem.readId k).epc ≠ 1) ∧
    waiting.par.idCap ≤ ({ waiting.tally with tDistinct := 64 }).tDistinct.toNat ∧
    ({ waiting.tally with tDistinct := 63 }).tDistinct.toNat < waiting.par.idCap :=
  ⟨by decide, ⟨0, by decide, by decide⟩, fun _ _ => show (0 : BitVec 96) ≠ 1 by decide, by decide, by decide⟩

theorem witness_FrameHandling :
    ({ kind := .r2tGap, start := 0, len := 64, forced := false } : Frame).kind = .r2tGap ∧
    ({ kind := .tagReply, start := 0, len := 64, forced := false } : Frame).kind = .tagReply ∧
    waiting.cfg.dbgCtrl = 0 ∧ ({ Cfg.reset with dbgCtrl := 1 }).dbgCtrl = 1 ∧
    waiting.rdr.slotsRem.toNat = 2 ^ waiting.cfg.rdrQ.toNat := by decide

theorem witness_TxDoneEffect :
    waiting.rdr.txBusy = false ∧ sending.rdr.txBusy = true ∧ sending.rdr.rstate = .awaitSlotReply ∧
    (running .roundStart true).rdr.txBusy = true ∧ (running .roundStart true).rdr.stopReq = false ∧
    (running .ackSequence true).rdr.rstate = .ackSequence := by decide

theorem witness_TxDoneEffect_stopping :
    (after (exec (.ctrlStop 0) (running .roundStart true))).rdr.txBusy = true ∧
    (after (exec (.ctrlStop 0) (running .roundStart true))).rdr.rstate = .roundStart ∧
    (after (exec (.ctrlStop 0) (running .roundStart true))).rdr.stopReq = true := by decide

theorem witness_StartOutcomes :
    waiting.rdr.rstate ≠ .done ∧ State.reset.rdr.rstate = .done ∧ validate State.reset.par State.reset.cfg = 0 ∧
    validate Params.thisHardware { Cfg.reset with selCfg := 0x210001 } = 13 := by decide

theorem witness_StartBeginsRun :
    validate Params.thisHardware { Cfg.reset with selCfg := 0x200001 } = 0 ∧ ({ Cfg.reset with selCfg := 0x200001 }).selEn = 1 ∧
    State.reset.cfg.selEn = 0 ∧ State.reset.rdr.rstate = .done ∧ validate State.reset.par State.reset.cfg = 0 := by decide

theorem witness_StopRequest : State.reset.rdr.rstate = .done ∧ waiting.rdr.rstate ≠ .done := by decide

theorem witness_IrqPendWriteOneToClear :
    ({ State.reset with inputs := [.cycle { cycleOf 0b01010 with addr := 0x010, wdata := 0x80 }] }).rdr.txBusy =
      false ∧
    (after (exec (.sample 45 0 0) { waiting with haveLast := true, lastIdx := 41 })).irqPend.getLsbD 3 = true ∧
    (∃ t, exec (.sample 45 0 0) { waiting with haveLast := true, lastIdx := 41 } = .next t) ∧
    ({ waiting with haveLast := true, lastIdx := 41 }).irqPend = 0 := ⟨by decide, by decide, ⟨_, rfl⟩, by decide⟩

theorem witness_ResetState : 8192 ≤ State.reset.par.fbDepth ∧ State.reset.par.idCap ≠ 0 := by decide

theorem witness_ConfigWriteReadsBack :
    State.reset.rdr.rstate = .done ∧ configMask (0x020 + (0#5).toNat) ≠ 0 ∧ configMask (0x020 + (0x1C#5).toNat) ≠ 0 ∧
    configMask (0x040 + (0#6).toNat) ≠ 0 ∧ configMask (0x040 + (0x3C#6).toNat) ≠ 0 := by decide

theorem witness_IgnoredWrites :
    (0x1F#5).toNat % 4 ≠ 0 ∧ (0x1C#5).toNat % 4 = 0 ∧ waiting.rdr.rstate ≠ .done ∧ (0x3F#6).toNat % 4 ≠ 0 ∧
    (0x10#6).toNat = 0x10 ∧ (0x1C#6).toNat = 0x1C ∧ configMask (0x040 + (0x20#6).toNat) ≠ 0 ∧
    (Instr.busWrite 0x009 0).wellFormed = true ∧ (0x009#12).toNat % 4 ≠ 0 ∧
    (Instr.busWrite 0xFFC 0).wellFormed = true ∧ (0xFFC#12).toNat % 4 = 0 := by decide

theorem witness_BusReads : (0xFFC#12).toNat % 4 = 0 ∧ (0xFFF#12).toNat % 4 ≠ 0 ∧ (0#12).toNat % 4 = 0 := by decide

theorem witness_ReadOnlyRegisters :
    0x16C ≤ (0x16C#12).toNat ∧ (0x16C#12).toNat ≤ 0x3FF ∧ 0x16C ≤ (0x3FF#12).toNat ∧ (0x3FF#12).toNat ≤ 0x3FF := by
  decide

theorem witness_IdTableWindow :
    63 < ({ waiting.tally with tDistinct := 64 }).tDistinct.toNat ∧ 0 < ({ waiting.tally with tDistinct := 1 }).tDistinct.toNat ∧
    ({ waiting.tally with tDistinct := 63 }).tDistinct.toNat ≤ 63 ∧ waiting.tally.tDistinct.toNat ≤ 0 := by decide

theorem witness_UnmappedOffsets :
    [0x01C#12, 0x050#12, 0x05C#12, 0x080#12, 0x0FC#12, 0x16C#12, 0x3FC#12, 0x800#12, 0xFFC#12].map BitVec.toNat =
      [0x01C, 0x050, 0x05C, 0x080, 0x0FC, 0x16C, 0x3FC, 0x800, 0xFFC] ∧
    (∀ a ∈ [0x01C, 0x050, 0x05C, 0x080, 0x0FC, 0x16C, 0x3FC, 0x800, 0xFFC],
      a % 4 = 0 ∧ mappedOffset a = false) ∧
    (∀ a ∈ [0x000, 0x018, 0x020, 0x07C, 0x100, 0x168, 0x400, 0x7FC], mappedOffset a = true) := by decide +kernel

theorem witness_SampleWhileStopped : State.reset.rdr.rstate = .done := rfl

theorem witness_SampleCompletes :
    Inv (framed waiting .tagReply 1 0) ∧ (framed waiting .tagReply 1 0).mem.wf = true ∧
    (framed waiting .tagReply 1 0).rdr.rstate ≠ .done := ⟨inv_framed, by decide, by decide⟩

theorem witness_NoiseFloorUpdate :
    sending.rdr.rstate ≠ .done ∧ listening sending = false ∧ sending.gate.gstate = .idle ∧
    (sending.haveLast = true → (0 : BitVec 32) = sending.lastIdx + 1) ∧
    energy 16 16 ≤ min (sending.gate.nf.toNat * sending.cfg.gateKon.toNat / 16 + sending.cfg.gateTofs.toNat)
      (2 ^ 32 - 1) := by decide

theorem witness_FrameOpensOnRise :
    waiting.rdr.rstate ≠ .done ∧ waiting.mem.wf = true ∧ waiting.gate.gstate = .idle ∧
    ({ waiting with haveLast := true, lastIdx := 0xFFFFFFFF }).lastIdx + 1 = 0 ∧ validate waiting.par waiting.cfg = 0 ∧
    min (waiting.gate.nf.toNat * waiting.cfg.gateKon.toNat / 16 + waiting.cfg.gateTofs.toNat) (2 ^ 32 - 1) <
      energy 28 0 := by decide

theorem witness_FrameGrows :
    Inv (framed waiting .tagReply 1 0) ∧ (framed waiting .tagReply 1 0).mem.wf = true ∧
    (framed waiting .tagReply 1 0).gate.gstate = .inFrame ∧ (framed waiting .tagReply 1 0).haveLast = false ∧
    (framed waiting .tagReply 1 0).gate.gLen.toNat + 1 < waiting.cfg.maxLen.toNat ∧
    min (waiting.gate.nf.toNat * waiting.cfg.gateKoff.toNat / 16 + waiting.cfg.gateTofs.toNat) (2 ^ 32 - 1) ≤
      energy 100 0 ∧
    (framed waiting .tagReply 1 0).gate.gBelow.toNat + 1 < waiting.cfg.hold.toNat :=
  ⟨inv_framed, by decide, by decide, by decide, by decide, by decide, by decide⟩

theorem witness_FrameCloses_gap :
    Inv (framed sending .r2tGap 8191 127) ∧ (framed sending .r2tGap 8191 127).mem.wf = true ∧ (framed sending .r2tGap 8191 127).rdr.rstate ≠ .done ∧
    listening (framed sending .r2tGap 8191 127) = false ∧ (framed sending .r2tGap 8191 127).gate.gstate = .inFrame ∧
    (framed sending .r2tGap 8191 127).haveLast = false ∧
    (framed sending .r2tGap 8191 127).gate.gBelow.toNat + 1 = sending.cfg.hold.toNat ∧
    energy 0 0 < min (sending.gate.nf.toNat * sending.cfg.gateKoff.toNat / 16 + sending.cfg.gateTofs.toNat)
      (2 ^ 32 - 1) ∧
    (framed sending .r2tGap 8191 127).gate.gLen.toNat + 1 = sending.cfg.maxLen.toNat ∧
    (framed sending .r2tGap 8191 127).gate.gLastHi.toNat < sending.cfg.minLen.toNat :=
  ⟨inv_gap, by decide, by decide, by decide, by decide, by decide, by decide, by decide, by decide, by decide⟩

theorem witness_FrameCloses_fall :
    Inv (heard 0x1234) ∧ (heard 0x1234).mem.wf = true ∧ listening (heard 0x1234) = true ∧
    (heard 0x1234).gate.gstate = .inFrame ∧ (heard 0x1234).haveLast = false ∧
    energy 0 0 < min ((heard 0x1234).gate.nf.toNat * (heard 0x1234).cfg.gateKoff.toNat / 16 +
      (heard 0x1234).cfg.gateTofs.toNat) (2 ^ 32 - 1) ∧
    (heard 0x1234).gate.gBelow.toNat + 1 = (heard 0x1234).cfg.hold.toNat ∧
    (heard 0x1234).cfg.minLen.toNat ≤ (heard 0x1234).gate.gLastHi.toNat :=
  ⟨inv_heard, by decide +kernel, by decide, by decide, by decide, by decide, by decide, by decide⟩

theorem witness_FrameCloses_force :
    Inv (framed waiting .tagReply 8191 0) ∧ (framed waiting .tagReply 8191 0).mem.wf = true ∧
    listening (framed waiting .tagReply 8191 0) = true ∧
    (framed waiting .tagReply 8191 0).gate.gLen.toNat + 1 = waiting.cfg.maxLen.toNat ∧
    ¬ (framed waiting .tagReply 8191 0).gate.gBelow.toNat + 1 = waiting.cfg.hold.toNat :=
  ⟨by constructor <;> decide, by decide, by decide, by decide, by decide⟩

theorem witness_FrameCloses_blip :
    Inv (framed { waiting with rdr := { waiting.rdr with tWait := 999 } } .tagReply 128 127) ∧
    (framed waiting .tagReply 128 127).gate.gBelow.toNat + 1 = waiting.cfg.hold.toNat ∧
    (framed waiting .tagReply 128 127).gate.gLastHi.toNat < waiting.cfg.minLen.toNat ∧
    (waiting.rdr.tWait + 1).toNat < waiting.cfg.tSlot.toNat ∧
    (after (exec (.sample 0 0 0) (framed { waiting with rdr := { waiting.rdr with tWait := 999 } } .tagReply 128
      127))).diag = { State.reset.diag with blipCnt := 1, timeoutCnt := 1 } :=
  ⟨by constructor <;> decide, by decide, by decide, by decide, by decide +kernel⟩

theorem witness_EmittedFrameBounds :
    Inv (heard 0x1234) ∧ (heard 0x1234).rdr.rstate ≠ .done ∧
    (gateStep 0 { i := 0, q := 0 } (heard 0x1234)).2 =
      some { kind := .tagReply, start := 0, len := 46, forced := false } :=
  ⟨inv_heard, by decide, by decide +kernel⟩

theorem witness_DiscontinuityResynchronises :
    waiting.rdr.rstate ≠ .done ∧ ({ waiting with haveLast := true, lastIdx := 41 }).haveLast = true ∧
    (45 : BitVec 32) ≠ ({ waiting with haveLast := true, lastIdx := 41 }).lastIdx + 1 := by decide

theorem witness_SlotTimer :
    listening waiting = true ∧ waiting.gate.gstate = .idle ∧ waiting.haveLast = false ∧ energy 0 0 ≤ thrOn waiting ∧
    listening (running .ackSequence false) = true ∧
    min (({ waiting.rdr with tWait := 999 }).tWait.toNat + 1) (2 ^ 32 - 1) = waiting.cfg.tSlot.toNat := by decide

theorem witness_DecoderRoundTrip :
    (bitsOf 16 0x1234).length = Expect.rn16.bits ∧ (100 : Nat) ≠ 10 ∧ ({ Cfg.reset with decSph := 1 }).decSph ≠ 0 ∧
    Cfg.reset.preThr.toNat ≤ 16 ∧ Cfg.reset.ambRun ≠ 0 ∧
    (let es := idealEnergies 1 100 10 (bitsOf 16 0x1234)
     Cfg.reset.ambFrac.toNat *
       (((es.length : Int) * (1 * 100 : Nat) - 1 * (es.sum : Int)).natAbs +
        ((es.length : Int) * (1 * 10 : Nat) - 1 * (es.sum : Int)).natAbs) ≤
      32 * min ((es.length : Int) * (1 * 100 : Nat) - 1 * (es.sum : Int)).natAbs
        ((es.length : Int) * (1 * 10 : Nat) - 1 * (es.sum : Int)).natAbs) := by decide +kernel

theorem witness_CrcDetectsSingleBitFlip :
    (bitsOf 128 0x3000E2003412013C0000000000FFD5F4).length = 128 ∧ 127 < 128 ∧
    crc16 ((bitsOf 128 0x3000E2003412013C0000000000FFD5F4).take 112) =
      BitVec.ofNat 16 (msbFirst ((bitsOf 128 0x3000E2003412013C0000000000FFD5F4).drop 112)) := by decide +kernel

theorem witness_DecoderVerdicts :
    [0, 0].length < 12 * Cfg.reset.decSph.toNat ∧ 12 * Cfg.reset.decSph.toNat ≤ 300 := by decide

/-- The verdicts on frames at one sample a half-symbol, each searched at offset 0: rejected, truncated, ambiguous and
decoded (rules R205, R206, R208, R210). -/
theorem witness_DecoderVerdicts_searched :
    (decodeEnergies { Cfg.reset with decSph := 1, preThr := 16 } .tagReply
      (100 :: 100 :: 10 :: 100 :: 10 :: 10 :: 100 :: 10 :: 10 :: 10 :: [100, 20]) .rn16).reason = .noPeak ∧
    (decodeEnergies { Cfg.reset with decSph := 1 } .tagReply (idealEnergies 1 100 10 (bitsOf 16 5)) .id).reason =
      .truncated ∧
    (decodeEnergies { Cfg.reset with decSph := 1 } .tagReply
      ((idealEnergies 1 100 10 (bitsOf 16 5)).take 30 ++ List.replicate 14 56) .rn16).reason = .ambiguityRun ∧
    (decodeEnergies { Cfg.reset with decSph := 1 } .tagReply (idealEnergies 1 100 10 (bitsOf 16 5)) .rn16).rn = 5 := by
  decide +kernel

theorem witness_ReplyCompletes :
    State.reset.rdr.rstate = .done ∧ waiting.rdr.rstate ≠ .done ∧ (heard 0).rdr.rstate ≠ .done := by decide

theorem witness_ReplyIsFramedWhole :
    Inv { waiting with inputs := [encode (.replyId 0x3000 5 7 100 10)] } ∧ waiting.mem.wf = true ∧
    listening waiting = true ∧ waiting.gate.gstate = .idle ∧
    thrOn waiting < energy 100 0 ∧ 3 * waiting.cfg.decSph.toNat < waiting.cfg.hold.toNat ∧
    (14 + 2 * (bitsOf 16 0x3000 ++ bitsOf 96 5 ++ bitsOf 16 7).length) * waiting.cfg.decSph.toNat <
      waiting.cfg.maxLen.toNat :=
  ⟨by constructor <;> decide, by decide, by decide, by decide, by decide, by decide, by decide +kernel⟩

theorem witness_StepKeepsInvariant :
    Inv { waiting with inputs := [.cycle (cycleOf 1)] } ∧
    ∃ t, step { waiting with inputs := [.cycle (cycleOf 1)] } = .next t :=
  ⟨by constructor <;> decide, _, rfl⟩

theorem witness_StepKeepsRegisterForms :
    (∃ t, step waiting = .next t) ∧ waiting.mem.wf = true ∧ qryHardwired waiting = true ∧
    decReservedZero waiting = true ∧ lastCmdLegal waiting = true ∧ distinctBounded waiting = true :=
  ⟨⟨_, rfl⟩, by decide, by decide, by decide, by decide, by decide⟩

theorem witness_ConfigConstantWhileRunning :
    waiting.rdr.rstate ≠ .done ∧ Instr.configWriteLo 0 0 ≠ .reset ∧ ∃ t, exec (.configWriteLo 0 0) waiting = .next t :=
  ⟨by decide, by decide, _, rfl⟩

theorem witness_PendingBitsStay :
    (∃ t, exec (.irqPendW1C 1) { State.reset with irqPend := 0x101 } = .next t) ∧ Instr.irqPendW1C 1 ≠ .reset ∧
    ({ State.reset with irqPend := 0x101 }).irqPend.getLsbD 8 = true := ⟨⟨_, rfl⟩, by decide, by decide⟩

theorem witness_SlotCounterRule :
    Inv { waiting with rdr := { waiting.rdr with slotsRem := 1, tWait := 999 } } ∧
    ∃ t, exec (.sample 0 0 0) { waiting with rdr := { waiting.rdr with slotsRem := 1, tWait := 999 } } = .next t ∧
      t.rdr.slotsRem = 4 := ⟨by constructor <;> decide, _, rfl, by decide⟩

theorem witness_OneCommandAtATime :
    (Inv State.reset ∧ ∃ t, exec (.ctrlStart 0) State.reset = .next t) ∧
    (Inv sending ∧ sending.rdr.txBusy = true ∧ ∃ t, exec (.ctrlStop 0) sending = .next t) :=
  ⟨⟨inv_reset, _, rfl⟩, inv_sending, by decide, _, rfl⟩

theorem witness_NoHandleAcknowledgedTwice :
    Inv (heard 0x1234) ∧ (heard 0x1234).mem.wf = true ∧ (heard 0x1234).rdr.rstate ≠ .done ∧
    (commandsOf (after (exec (.sample 0 0 0) (heard 0x1234))).outs).map (·.kind) = [4] ∧
    (after (exec (.sample 0 0 0) (heard 0x1234))).mem.readHb 0x1234 = true :=
  ⟨inv_heard, by decide +kernel, by decide, by decide +kernel, by decide +kernel⟩

theorem witness_DoneIsASnapshot :
    Instr.txDone ≠ .reset ∧ Inv State.reset ∧
    ∃ t, exec .txDone State.reset = .next t ∧ t.rdr.rstate = .done := ⟨by decide, inv_reset, _, rfl, by decide⟩

theorem witness_ReaderTransitions :
    Inv (running .roundStart true) ∧
    ∃ t, exec .txDone (running .roundStart true) = .next t ∧ t.rdr.rstate = .awaitSlotReply :=
  ⟨inv_selecting, _, rfl, by decide⟩

end Sys2Proof.Tests
end

section
/-! PROOFS. Steps (rules R10, R110): what a step does with the first pending port activity, and what decoding that activity
can give. -/

namespace Sys2Proof.Machine

/-- Settles O1: the equation of `step` where the first pending activity decodes. -/
theorem stepRunsDecodedInstruction : Obligations.StepRunsDecodedInstruction := by
  intro s item rest i left hin hdec
  simp only [step, hin, hdec]

/-- Settles O2: the equations of `step` where nothing is pending or the first pending activity does not decode. -/
theorem stepWithoutInstruction : Obligations.StepWithoutInstruction := by
  refine ⟨fun s hin => ?_, fun s item rest hin hdec => ?_, fun s item rest e hin hdec he => ?_⟩
  · simp only [step, hin]
  · simp only [step, hin, hdec]
  · cases e
    case idleCycle => exact absurd rfl he
    all_goals simp only [step, hin, hdec]

/-- Everything a step that answers a next state can have done. -/
theorem step_next_cases {s t : State} (h : step s = .next t) :
    (s.inputs = [] ∧ t = s) ∨
    (∃ item rest, s.inputs = item :: rest ∧ decodeItem item = .error .idleCycle ∧ t = { s with inputs := rest }) ∨
    (∃ item rest i left, s.inputs = item :: rest ∧ decodeItem item = .ok (i, left) ∧
      exec i { s with inputs := left.toList ++ rest } = .next t) := by
  obtain ⟨hnil, hidle, hbad⟩ := stepWithoutInstruction
  rcases hin : s.inputs with _ | ⟨item, rest⟩
  · rw [hnil s hin] at h
    exact .inl ⟨rfl, (Host.Outcome.next.inj h).symm⟩
  · rcases hdec : decodeItem item with e | ⟨i, left⟩
    · by_cases he : e = .idleCycle
      · subst he
        rw [hidle s item rest hin hdec] at h
        exact .inr (.inl ⟨item, rest, rfl, hdec, (Host.Outcome.next.inj h).symm⟩)
      · rw [hbad s item rest e hin hdec he] at h
        cases h
    · rw [stepRunsDecodedInstruction s item rest i left hin hdec] at h
      exact .inr (.inr ⟨item, rest, i, left, rfl, hdec, h⟩)

/-- Command bits decode to Commands alone (rules R134 to R138). -/
theorem isCommand_of_decodeCommand {bits : List Bool} {i : Instr} (h : decodeCommand bits = .ok i) :
    isCommand i = true := by
  unfold decodeCommand at h
  split at h
  · split at h <;> cases h; rfl
  · split at h <;> cases h; rfl
  · unfold decodeQuery at h
    split at h
    · cases h
    · split at h <;> cases h; rfl
  · split at h <;> cases h; rfl
  · unfold decodeSelect at h
    dsimp only at h
    split at h
    · cases h
    · split at h
      · cases h
      · split at h <;> cases h; rfl
  · cases h

/-- Reply bits decode to the two reply rows alone, with the reply's amplitudes (rules R152, R153). -/
theorem decodeReply_cases {bits : List Bool} {hi lo : BitVec 16} {i : Instr} (h : decodeReply bits hi lo = .ok i) :
    (∃ rn, i = .replyRn16 rn hi lo) ∨ ∃ pc epc crc, i = .replyId pc epc crc hi lo := by
  unfold decodeReply at h
  split at h
  · exact .inl ⟨_, (Except.ok.inj h).symm⟩
  · split at h
    · exact .inr ⟨_, _, _, (Except.ok.inj h).symm⟩
    · cases h

/-- Port activity that is no clock cycle decodes to a Command or to a reply, and leaves nothing. -/
theorem decodeItem_not_cycle {item : Item} {i : Instr} {left : Option Item} (hc : ∀ c, item ≠ .cycle c)
    (h : decodeItem item = .ok (i, left)) :
    left = none ∧ (isCommand i = true ∨ (∃ rn hi lo, i = .replyRn16 rn hi lo) ∨
      ∃ pc epc crc hi lo, i = .replyId pc epc crc hi lo) := by
  cases item with
  | cycle c => exact absurd rfl (hc c)
  | command bits =>
    rcases hd : decodeCommand bits with e | j <;> simp only [decodeItem, hd] at h
    · cases h
    · cases h
      exact ⟨rfl, .inl (isCommand_of_decodeCommand hd)⟩
  | reply bits hi lo =>
    rcases hd : decodeReply bits hi lo with e | j <;> simp only [decodeItem, hd] at h
    · cases h
    · cases h
      rcases decodeReply_cases hd with ⟨rn, rfl⟩ | ⟨pc, epc, crc, rfl⟩
      · exact ⟨rfl, .inr (.inl ⟨rn, hi, lo, rfl⟩)⟩
      · exact ⟨rfl, .inr (.inr ⟨pc, epc, crc, hi, lo, rfl⟩)⟩

end Sys2Proof.Machine
end


section
/-! PROOFS. The invariants of rule R33, procedure by procedure: first how `Inv` is built for a stopped and for a running
block, then that each procedure of the Reader, the Gate and the host interface keeps it, and so every step. -/

namespace Sys2Proof.Machine

/-- `listening` written out (rule R29). -/
theorem listening_iff (s : State) : listening s = true ↔
    (s.rdr.rstate = .awaitSlotReply ∨ s.rdr.rstate = .ackSequence) ∧ s.rdr.txBusy = false := by
  simp [listening]

/-- A block that transmits does not listen. -/
theorem listening_of_txBusy {s : State} (h : s.rdr.txBusy = true) : listening s = false := by
  simp [listening, h]

/-- `listening` reads the Reader's registers alone. -/
theorem listening_congr {s t : State} (h : t.rdr = s.rdr) : listening t = listening s := by
  simp only [listening, h]

/-- A listening block runs. -/
theorem running_of_listening {s : State} (h : listening s = true) : s.rdr.rstate ≠ .done := by
  obtain ⟨hr | hr, -⟩ := (listening_iff s).1 h <;> simp [hr]

/-- The kind a frame would open with reads the Reader's registers alone. -/
theorem openingKind_congr {s t : State} (h : t.rdr = s.rdr) : openingKind t = openingKind s := by
  simp only [openingKind, listening_congr h]

/-- Only a listening block opens reply frames (rule R178). -/
theorem openingKind_eq_tagReply (s : State) : openingKind s = .tagReply ↔ listening s = true := by
  cases h : listening s <;> simp [openingKind, h]

/-- A round's slot count is `2^RDR_Q`, without wrapping (rule R24). -/
theorem toNat_slotCount (q : BitVec 4) : (1#17 <<< q.toNat).toNat = 2 ^ q.toNat := by
  have hpow : 2 ^ q.toNat < 2 ^ 17 := Nat.pow_lt_pow_right (by omega) (by omega)
  rw [BitVec.toNat_shiftLeft, Nat.shiftLeft_eq, BitVec.toNat_ofNat, Nat.one_mod_two_pow (by omega), one_mul,
    Nat.mod_eq_of_lt hpow]

/-- The synthesis parameters are in their ranges (rule R6). -/
abbrev Params.Legal (p : Params) : Prop := 1 ≤ p.fbDepth ∧ p.fbDepth ≤ 65535 ∧ 1 ≤ p.idCap ∧ p.idCap ≤ 64

/-- The Gate part of the invariants: no frame is open, or the block runs and the open frame is within its bounds and of the
kind that a frame opened now would have (rules R33(c), R33(e), R178). -/
def GoodGate (s : State) : Prop :=
  s.gate.gstate = .idle ∨
    (s.gate.gstate = .inFrame ∧ s.rdr.rstate ≠ .done ∧ s.gate.gKind = openingKind s ∧
      1 ≤ s.gate.gLen.toNat ∧ s.gate.gLen.toNat < s.cfg.maxLen.toNat ∧ s.gate.gBelow.toNat < s.cfg.hold.toNat ∧
      s.gate.gLastHi.toNat ≤ s.gate.gLen.toNat)

section
variable {s t : State}

/-! ### Building the invariants -/

/-- The invariants speak of the synthesis parameters, the configuration, the Reader and the Gate alone. -/
theorem Inv.congr (h : Inv s) (hp : t.par = s.par) (hc : t.cfg = s.cfg) (hr : t.rdr = s.rdr) (hg : t.gate = s.gate) :
    Inv t := by
  have hl := listening_congr hr
  constructor
  all_goals simp only [hp, hc, hr, hg, hl]
  exacts [h.parameters, h.legalReader, h.legalGate, h.doneQuiet, h.roundStartBusy, h.frameBounds, h.replyListening,
    h.gapNotListening, h.slotsLeft, h.configured]

/-- Pending port activity does not matter. -/
theorem Inv.withInputs (h : Inv s) (l : List Item) : Inv { s with inputs := l } := h.congr rfl rfl rfl rfl

/-- The diagnostic counters do not matter. -/
theorem Inv.withDiag (h : Inv s) (d : Diag) : Inv { s with diag := d } := h.congr rfl rfl rfl rfl

/-- The invariants of a stopped block. -/
theorem Inv.of_done (hp : s.par.Legal) (hr : s.rdr.rstate = .done) (hb : s.rdr.txBusy = false)
    (hs : s.rdr.stopReq = false) (hg : s.gate.gstate = .idle) : Inv s where
  parameters := hp
  legalReader := .inl hr
  legalGate := .inl hg
  doneQuiet _ := ⟨hb, hs, hg⟩
  roundStartBusy h := by simp [hr] at h
  frameBounds h := by simp [hg] at h
  replyListening h := by simp [hg] at h
  gapNotListening h := by simp [hg] at h
  slotsLeft h := absurd hr h
  configured h := absurd hr h

/-- The invariants of a running block. -/
theorem Inv.of_running (hp : s.par.Legal) (hv : validate s.par s.cfg = 0)
    (hn : 1 ≤ s.rdr.slotsRem.toNat ∧ s.rdr.slotsRem.toNat ≤ 2 ^ s.cfg.rdrQ.toNat)
    (hr : s.rdr.rstate = .roundStart ∨ s.rdr.rstate = .awaitSlotReply ∨ s.rdr.rstate = .ackSequence)
    (hb : s.rdr.rstate = .roundStart → s.rdr.txBusy = true) (hg : GoodGate s) : Inv s where
  parameters := hp
  legalReader := .inr hr
  legalGate := hg.imp_right And.left
  doneQuiet h := by simp [h] at hr
  roundStartBusy := hb
  frameBounds h := by
    rcases hg with hg | ⟨-, -, -, hbounds⟩
    · simp [hg] at h
    · exact hbounds
  replyListening h hk := by
    rcases hg with hg | ⟨-, -, hkind, -⟩
    · simp [hg] at h
    · exact (openingKind_eq_tagReply s).1 (hkind ▸ hk)
  gapNotListening h hk := by
    rcases hg with hg | ⟨-, -, hkind, -⟩
    · simp [hg] at h
    · cases hl : listening s with
      | false => rfl
      | true => simp [hk, (openingKind_eq_tagReply s).2 hl] at hkind
  slotsLeft _ := hn
  configured _ := hv

/-- The Gate part of the invariants. -/
theorem Inv.goodGate (h : Inv s) : GoodGate s := by
  refine h.legalGate.imp_right fun hg => ⟨hg, fun hd => ?_, ?_, h.frameBounds hg⟩
  · simp [(h.doneQuiet hd).2.2] at hg
  · cases hk : s.gate.gKind with
    | r2tGap => simp [openingKind, h.gapNotListening hg hk]
    | tagReply => simp [openingKind, h.replyListening hg hk]

/-- The Gate may change from one good Gate to another. -/
theorem Inv.withGate (h : Inv s) (hp : t.par = s.par) (hc : t.cfg = s.cfg) (hr : t.rdr = s.rdr) (hg : GoodGate t) :
    Inv t := by
  by_cases hd : s.rdr.rstate = .done
  · obtain ⟨hb, hs, -⟩ := h.doneQuiet hd
    have hi : t.gate.gstate = .idle := hg.resolve_right fun hf => hf.2.1 (hr ▸ hd)
    exact Inv.of_done (hp ▸ h.parameters) (hr ▸ hd) (hr ▸ hb) (hr ▸ hs) hi
  · have hv : validate t.par t.cfg = 0 := by rw [hp, hc]; exact h.configured hd
    exact Inv.of_running (hp ▸ h.parameters) hv (by rw [hr, hc]; exact h.slotsLeft hd)
      (hr ▸ h.legalReader.resolve_left hd) (hr ▸ h.roundStartBusy) hg

/-- The state after reset, for every legal pair of synthesis parameters (rules R6, R58). -/
theorem inv_resetOf {p : Params} (hp : p.Legal) : Inv (State.resetOf p) := Inv.of_done hp rfl rfl rfl rfl

/-- `GATE_RESET` (rule R180). -/
theorem inv_gateReset (h : Inv s) : Inv (gateReset s) := h.withGate rfl rfl rfl (.inl rfl)

/-! ### The Reader -/

/-- `ENTER_DONE` with no Command outstanding (rules R33(a), R257). -/
theorem inv_enterDone (hp : s.par.Legal) (hb : s.rdr.txBusy = false) : Inv (enterDone s) := Inv.of_done hp rfl hb rfl rfl

/-- `ROUND_BEGIN` under a validated configuration, with no Command outstanding and no frame open (rule R243). -/
theorem inv_roundBegin (hp : s.par.Legal) (hv : validate s.par s.cfg = 0) (hb : s.rdr.txBusy = false)
    (hg : s.gate.gstate = .idle) : Inv (roundBegin s) := by
  have hn : 1 ≤ (1#17 <<< s.cfg.rdrQ.toNat).toNat ∧ (1#17 <<< s.cfg.rdrQ.toNat).toNat ≤ 2 ^ s.cfg.rdrQ.toNat := by
    rw [toNat_slotCount]
    exact ⟨Nat.one_le_two_pow, le_rfl⟩
  rcases roundBegin_cases s with ⟨-, he⟩ | ⟨-, -, ⟨-, he⟩ | ⟨-, he⟩⟩ <;> rw [he]
  · exact inv_enterDone hp hb
  · exact Inv.of_running hp hv hn (.inl rfl) (fun _ => rfl) (.inl hg)
  · exact Inv.of_running hp hv hn (.inr (.inl rfl)) (fun _ => rfl) (.inl hg)

/-- `END_SLOT` of a listening block with no frame open (rule R259). -/
theorem inv_endSlot (h : Inv s) (hl : listening s = true) (hg : s.gate.gstate = .idle) (o : SlotOutcome) :
    Inv (endSlot o s) := by
  have hrun := running_of_listening hl
  have hb : s.rdr.txBusy = false := ((listening_iff s).1 hl).2
  have hv := h.configured hrun
  obtain ⟨hlo, hhi⟩ := h.slotsLeft hrun
  rcases endSlot_cases s o with ⟨-, he⟩ | ⟨-, -, he⟩ | ⟨hne, -, he⟩ <;> rw [he]
  · exact inv_roundBegin h.parameters hv hb hg
  · exact inv_enterDone h.parameters hb
  · have hn : 1 ≤ (s.rdr.slotsRem - 1).toNat ∧ (s.rdr.slotsRem - 1).toNat ≤ 2 ^ s.cfg.rdrQ.toNat := by
      have hle : (s.rdr.slotsRem - 1).toNat ≤ s.rdr.slotsRem.toNat := by bv_omega
      exact ⟨by bv_omega, hle.trans hhi⟩
    exact Inv.of_running h.parameters hv hn (.inr (.inl rfl)) (fun _ => rfl) (.inl hg)

/-- `ACK_OR_REFUSE` of a listening block with no frame open (rule R252). -/
theorem inv_ackOrRefuse (h : Inv s) (hl : listening s = true) (hg : s.gate.gstate = .idle) (rn : BitVec 16) :
    Inv (ackOrRefuse rn s) := by
  have hrun := running_of_listening hl
  rcases ackOrRefuse_cases s rn with ⟨-, he⟩ | ⟨-, he⟩ <;> rw [he]
  · exact inv_endSlot (h.withDiag { s.diag with hrepCnt := s.diag.hrepCnt + 1 }) hl hg _
  · exact Inv.of_running h.parameters (h.configured hrun) (h.slotsLeft hrun) (.inr (.inr rfl)) (fun _ => rfl) (.inl hg)

/-- `RECORD_ID` (rule R258). -/
theorem inv_recordId (h : Inv s) (pc : BitVec 16) (epc : BitVec 96) : Inv (recordId pc epc s) :=
  h.congr (recordId_par s pc epc) (recordId_cfg s pc epc) (recordId_rdr s pc epc) (recordId_gate s pc epc)

/-- `CLASSIFY` of a listening block with no frame open (rules R251, R254). -/
theorem inv_classify (h : Inv s) (hl : listening s = true) (hg : s.gate.gstate = .idle) (d : Decoded) :
    Inv (classify d s) := by
  rcases classify_cases s d with ⟨-, -, he⟩ | ⟨-, -, he⟩ | ⟨-, -, he⟩ | ⟨-, -, he⟩ | ⟨-, -, -, he⟩ | ⟨-, -, he⟩ |
    ⟨-, -, he⟩ <;> rw [he]
  · exact inv_endSlot h hl hg _
  · exact inv_endSlot h hl hg _
  · exact inv_ackOrRefuse h hl hg _
  · exact h
  · have hl' := (listening_congr (recordId_rdr s d.pc d.epc)).trans hl
    exact inv_endSlot (inv_recordId h d.pc d.epc) hl' ((congrArg _ (recordId_gate s d.pc d.epc)).trans hg) _
  · exact inv_endSlot h hl hg _
  · exact h

/-- Advancing the slot timer (rule R255). -/
theorem inv_ticked (h : Inv s) : Inv (ticked s) where
  parameters := h.parameters
  legalReader := h.legalReader
  legalGate := h.legalGate
  doneQuiet := h.doneQuiet
  roundStartBusy := h.roundStartBusy
  frameBounds := h.frameBounds
  replyListening := h.replyListening
  gapNotListening := h.gapNotListening
  slotsLeft := h.slotsLeft
  configured := h.configured

/-- `SLOT_TICK` of a listening block (rule R255). -/
theorem inv_slotTick (h : Inv s) (hl : listening s = true) : Inv (slotTick s) := by
  rcases slotTick_cases s with ⟨-, hg, he⟩ | ⟨-, he⟩ <;> rw [he]
  · exact inv_classify ((inv_ticked h).withDiag _) hl hg _
  · exact inv_ticked h

/-- `ON_FRAME` after the frame has closed, a reply frame only while listening (rule R250). -/
theorem inv_onFrame (h : Inv s) (hg : s.gate.gstate = .idle) (f : Frame)
    (hl : f.kind = .tagReply → listening s = true) (d : Decoded) : Inv (onFrame f d s) := by
  rcases onFrame_cases s f d with ⟨-, he⟩ | ⟨hk, he⟩ <;> rw [he]
  · exact h.congr rfl rfl rfl rfl
  · have hrec : Inv (recorded s f) :=
      h.congr (recorded_par s f) (recorded_cfg s f) (recorded_rdr s f) (recorded_gate s f)
    exact inv_classify hrec ((listening_congr (recorded_rdr s f)).trans (hl hk))
      ((congrArg _ (recorded_gate s f)).trans hg) d

/-- `LATCH_LAST` (rule R212). -/
theorem inv_latchLast (h : Inv s) (d : Decoded) : Inv (latchLast d s) := h.congr rfl rfl rfl rfl

/-- `TX_DONE` (rule R253): a block that transmits holds no reply frame, so a gap frame may stay open behind the Query that
follows a Select. -/
theorem inv_txDone (h : Inv s) : Inv (txDone s) := by
  rcases txDone_cases s with ⟨-, he⟩ | ⟨-, -, -, he⟩ | ⟨hb, hr, -, he⟩ | ⟨-, hr, he⟩ <;> rw [he]
  · exact h.congr rfl rfl rfl rfl
  · exact inv_enterDone h.parameters rfl
  · have hrun : s.rdr.rstate ≠ .done := by simp [hr]
    have hgap : openingKind s = .r2tGap := by simp [openingKind, listening_of_txBusy hb]
    refine Inv.of_running h.parameters (h.configured hrun) (h.slotsLeft hrun) (.inr (.inl rfl)) (fun _ => rfl) ?_
    exact h.goodGate.imp_right fun ⟨hin, _, hk, hbounds⟩ => ⟨hin, nofun, hk.trans hgap, hbounds⟩
  · by_cases hd : s.rdr.rstate = .done
    · exact Inv.of_done h.parameters hd rfl (h.doneQuiet hd).2.1 rfl
    · exact Inv.of_running h.parameters (h.configured hd) (h.slotsLeft hd) (h.legalReader.resolve_left hd)
        (fun hs => absurd hs hr) (.inl rfl)

/-! ### The Gate -/

/-- Noting a sample's index, with the resynchronisation of rule R179. -/
theorem inv_noteIndex (h : Inv s) (idx : BitVec 32) : Inv (noteIndex idx s) := by
  have hd : Inv (discontCheck idx s) := by
    rcases discontCheck_cases s idx with ⟨-, he⟩ | ⟨-, -, -, he⟩ | ⟨-, -, -, he⟩ <;> rw [he]
    · exact h
    · exact inv_gateReset (h.congr rfl rfl rfl rfl)
    · exact h.congr rfl rfl rfl rfl
  exact hd.congr rfl rfl rfl rfl

/-- What the Reader needs of the Gate's part of a sample step: a good state, and a frame that has closed, a reply frame only
while listening. -/
def GateResult (r : State × Option Frame) : Prop :=
  Inv r.1 ∧ ∀ f, r.2 = some f → r.1.gate.gstate = .idle ∧ (f.kind = .tagReply → listening r.1 = true)

/-- Closing a frame that was just opened or extended from a good state `s` (rules R175 to R177). -/
theorem gateResult_closeFrame (h : Inv s) (t : State) (hp : t.par = s.par) (hc : t.cfg = s.cfg) (hr : t.rdr = s.rdr)
    (hk : t.gate.gKind = openingKind s) (len : BitVec 16) (forced : Bool) : GateResult (closeFrame len forced t) := by
  have hr' := (closeFrame_rdr t len forced).trans hr
  have hidle : (closeFrame len forced t).1.gate.gstate = .idle := by rw [closeFrame_gate]; rfl
  refine ⟨h.withGate ((closeFrame_par t len forced).trans hp) ((closeFrame_cfg t len forced).trans hc) hr'
    (.inl hidle), fun f hf => ⟨hidle, fun hreply => ?_⟩⟩
  rw [closeFrame_frame] at hf
  split at hf
  · cases hf
  · cases hf
    exact (listening_congr hr').trans ((openingKind_eq_tagReply s).1 (hk.symm.trans hreply))

/-- Of the Gate's registers, an open frame that takes a sample keeps all but its length, its last high and its run below
(rule R174). -/
theorem extendFrame_gate_keeps (s : State) (x : Sample) (en : Nat) :
    (extendFrame x en s).gate.gstate = s.gate.gstate ∧ (extendFrame x en s).gate.gKind = s.gate.gKind ∧
      (extendFrame x en s).gate.gStart = s.gate.gStart ∧ (extendFrame x en s).gate.nf = s.gate.nf ∧
      (extendFrame x en s).gate.gLen = s.gate.gLen + 1 := by
  rw [extendFrame_gate]
  split <;> exact ⟨rfl, rfl, rfl, rfl, rfl⟩

/-- An open frame that takes a sample without falling or filling up stays within its bounds (rules R33(c), R174). -/
theorem extendFrame_bounds (x : Sample) (en : Nat) (hlen : s.gate.gLen.toNat < s.cfg.maxLen.toNat)
    (hbelow : s.gate.gBelow.toNat < s.cfg.hold.toNat) (hhi : s.gate.gLastHi.toNat ≤ s.gate.gLen.toNat)
    (hnofall : (extendFrame x en s).gate.gBelow ≠ s.cfg.hold)
    (hnofull : (extendFrame x en s).gate.gLen ≠ s.cfg.maxLen) :
    1 ≤ (extendFrame x en s).gate.gLen.toNat ∧ (extendFrame x en s).gate.gLen.toNat < s.cfg.maxLen.toNat ∧
      (extendFrame x en s).gate.gBelow.toNat < s.cfg.hold.toNat ∧
      (extendFrame x en s).gate.gLastHi.toNat ≤ (extendFrame x en s).gate.gLen.toNat := by
  rw [extendFrame_gate] at *
  by_cases hhigh : thrOff s ≤ en
  · simp only [hhigh, if_true] at *
    exact ⟨by bv_omega, by bv_omega, by bv_omega, le_rfl⟩
  · simp only [hhigh, if_false] at *
    exact ⟨by bv_omega, by bv_omega, by bv_omega, by bv_omega⟩

/-- `GATE_STEP` of a running block (rules R172 to R176). -/
theorem gateResult_gateStep (h : Inv s) (hrun : s.rdr.rstate ≠ .done) (idx : BitVec 32) (x : Sample) :
    GateResult (gateStep idx x s) := by
  obtain ⟨-, -, -, hhold, -, hsph, hmax, -⟩ := validate_bounds _ _ (h.configured hrun)
  rcases h.goodGate with hg | ⟨hg, -, hk, -, hlen, hbelow, hhi⟩
  · by_cases hrise : thrOn s < energy x.i x.q
    · have hroom : 1 < s.cfg.maxLen.toNat := by omega
      rw [gateStep_rise s idx x hg hrise]
      split
      · exact gateResult_closeFrame h (openFrame idx x s) rfl rfl rfl rfl _ _
      · exact ⟨h.withGate rfl rfl rfl (.inr ⟨rfl, hrun, rfl, le_rfl, hroom, hhold, le_rfl⟩), nofun⟩
    · rw [gateStep_quiet s idx x hg hrise]
      exact ⟨h.withGate rfl rfl rfl (.inl hg), nofun⟩
  · obtain ⟨hg', hk', -⟩ := extendFrame_gate_keeps s x (energy x.i x.q)
    rw [gateStep_inFrame s idx x hg]
    dsimp only
    split
    · exact gateResult_closeFrame h (extendFrame x _ s) rfl rfl rfl (hk'.trans hk) _ _
    · split
      · exact gateResult_closeFrame h (extendFrame x _ s) rfl rfl rfl (hk'.trans hk) _ _
      · rename_i hnofall hnofull
        have hbounds := extendFrame_bounds x _ hlen hbelow hhi hnofall hnofull
        exact ⟨h.withGate rfl rfl rfl (.inr ⟨hg'.trans hg, hrun, hk'.trans hk, hbounds⟩), nofun⟩

/-- The Reader's part of a sample step (rule R170). -/
theorem inv_afterGate {r : State × Option Frame} (h : GateResult r) : Inv (afterGate r) := by
  obtain ⟨hinv, hclosed⟩ := h
  rcases afterGate_cases r with ⟨f, hf, he⟩ | ⟨-, hl, he⟩ | ⟨-, -, he⟩ <;> rw [he]
  · obtain ⟨hg, hl⟩ := hclosed f hf
    exact inv_onFrame (inv_latchLast hinv _) hg f hl _
  · exact inv_slotTick hinv hl
  · exact hinv

/-- `SAMPLE` (rules R170, R171). -/
theorem inv_sampleStep (h : Inv s) {idx : BitVec 32} {i q : BitVec 16} (ht : sampleStep idx i q s = .next t) :
    Inv t := by
  rcases sampleStep_next s idx i q t ht with ⟨-, rfl⟩ | ⟨hrun, -, rfl⟩
  · exact h
  · exact inv_afterGate (gateResult_gateStep (inv_noteIndex h idx) (by rwa [noteIndex_rdr]) idx _)

/-! ### The host interface -/

/-- `RESET` (rule R360). -/
theorem inv_reset (h : Inv s) : Inv (reset s) := (inv_resetOf h.parameters).congr rfl rfl rfl rfl

/-- START (rules R293 to R295). -/
theorem inv_start (h : Inv s) : Inv (start s) := by
  rcases start_cases s with ⟨-, he⟩ | ⟨-, -, he⟩ | ⟨-, hv, he⟩ <;> rw [he]
  · exact h.congr rfl rfl rfl rfl
  · exact h.congr rfl rfl rfl rfl
  · exact inv_roundBegin (s := startClear s) h.parameters hv rfl rfl

/-- STOP (rule R296). -/
theorem inv_stop (h : Inv s) : Inv (stop s) := by
  rcases stop_cases s with ⟨-, he⟩ | ⟨hrun, he⟩ <;> rw [he]
  · exact h
  · exact Inv.of_running h.parameters (h.configured hrun) (h.slotsLeft hrun) (h.legalReader.resolve_left hrun)
      h.roundStartBusy h.goodGate

/-- A write of `CTRL` (rule R42). -/
theorem inv_writeCtrl (h : Inv s) (data : BitVec 32) : Inv (writeCtrl data s) := by
  rcases writeCtrl_cases s data with ⟨-, he⟩ | ⟨-, -, he⟩ | ⟨-, -, he⟩ <;> rw [he]
  · exact inv_stop h
  · exact inv_start h
  · exact h

/-- A write in the configuration range, stored only while the block is stopped (rule R44). -/
theorem inv_writeConfig (h : Inv s) (addr : BitVec 12) (data : BitVec 32) : Inv (writeConfig addr data s) := by
  rcases writeConfig_cases s addr data with ⟨-, he⟩ | ⟨-, -, he⟩ | ⟨-, hd, c, -, he⟩ | ⟨-, -, -, he⟩ <;> rw [he]
  · exact h.congr rfl rfl rfl rfl
  · exact h
  · obtain ⟨hb, hs, hg⟩ := h.doneQuiet hd
    exact Inv.of_done h.parameters hd hb hs hg
  · exact h.congr rfl rfl rfl rfl

/-- The acknowledgement of causes (rule R292). -/
theorem inv_clearPending (h : Inv s) (data : BitVec 32) : Inv (clearPending data s) := h.congr rfl rfl rfl rfl

/-- A write of `IRQ_EN` (rule R54). -/
theorem inv_writeIrqEn (h : Inv s) (data : BitVec 32) : Inv (writeIrqEn data s) := h.congr rfl rfl rfl rfl

/-- `BUS_WRITE` (rule R290). -/
theorem inv_busWrite (h : Inv s) (addr : BitVec 12) (data : BitVec 32) : Inv (busWrite addr data s) := by
  rcases busWrite_cases s addr data with ⟨-, he⟩ | ⟨-, -, he⟩ | ⟨-, -, he⟩ | ⟨-, -, he⟩ | ⟨-, -, -, he⟩ |
    ⟨-, -, -, -, -, he⟩ <;> rw [he]
  · exact h.congr rfl rfl rfl rfl
  · exact inv_writeCtrl h data
  · exact inv_clearPending h data
  · exact inv_writeIrqEn h data
  · exact inv_writeConfig h addr data
  · exact h

/-- `BUS_READ` (rule R291). -/
theorem inv_busRead (h : Inv s) (addr : BitVec 12) : Inv (busRead addr s) := by
  unfold busRead
  split <;> exact h.congr rfl rfl rfl rfl

/-- A cycle with both bus strobes (rule R113). -/
theorem inv_busWriteRead (h : Inv s) (addr : BitVec 12) (data : BitVec 32) : Inv (busWriteRead addr data s) :=
  (inv_busWrite h addr data).congr rfl rfl rfl rfl

/-! ### Instructions and steps -/

/-- Presented at a step boundary, no Command changes anything (rules R110, R130; log entry 6). -/
theorem exec_command_of_inv (h : Inv s) {i : Instr} (hi : isCommand i = true) : exec i s = .next s := by
  have hround := opensRound_boundary s h.roundStartBusy
  cases i with
  | query => exact congrArg Host.Outcome.next (by simp [hround])
  | queryRep => exact congrArg Host.Outcome.next (by simp [opensNextSlot_boundary s h.legalReader])
  | queryAdjust => rfl
  | ack rn => exact congrArg Host.Outcome.next (by simp [acknowledges_boundary s rn h.legalReader])
  | select => exact congrArg Host.Outcome.next (by simp [hround])
  | _ => cases hi

/-- A reply that arrives changes the pending port activity alone. -/
theorem inv_presentReply (h : Inv s) (bits : List Bool) (hi lo : BitVec 16) : Inv (presentReply bits hi lo s) := by
  rw [presentReply_eq]
  exact h.withInputs _

/-- Every instruction keeps the invariants. -/
theorem inv_exec (h : Inv s) {i : Instr} (ht : exec i s = .next t) : Inv t := by
  cases i with
  | reset => exact Host.Outcome.next.inj ht ▸ inv_reset h
  | busWrite addr data => exact Host.Outcome.next.inj ht ▸ inv_busWrite h addr data
  | busRead addr => exact Host.Outcome.next.inj ht ▸ inv_busRead h addr
  | busWriteRead addr data => exact Host.Outcome.next.inj ht ▸ inv_busWriteRead h addr data
  | txDone => exact Host.Outcome.next.inj ht ▸ inv_txDone h
  | sample => exact inv_sampleStep h ht
  | ctrlStart => exact Host.Outcome.next.inj ht ▸ inv_start h
  | ctrlStop => exact Host.Outcome.next.inj ht ▸ inv_stop h
  | ctrlStartStop => exact Host.Outcome.next.inj ht ▸ inv_stop h
  | ctrlNop => exact Host.Outcome.next.inj ht ▸ h
  | irqPendW1C data => exact Host.Outcome.next.inj ht ▸ inv_clearPending h data
  | irqEnWrite data => exact Host.Outcome.next.inj ht ▸ inv_writeIrqEn h data
  | configWriteLo off data => exact Host.Outcome.next.inj ht ▸ inv_writeConfig h _ data
  | configWriteHi off data => exact Host.Outcome.next.inj ht ▸ inv_writeConfig h _ data
  | replyRn16 rn hi lo => exact Host.Outcome.next.inj ht ▸ inv_presentReply h _ hi lo
  | replyId pc epc crc hi lo => exact Host.Outcome.next.inj ht ▸ inv_presentReply h _ hi lo
  | query | queryRep | queryAdjust | ack | select =>
    exact Host.Outcome.next.inj ((exec_command_of_inv h rfl).symm.trans ht) ▸ h

end

/-- Settles O51: the state after reset is `Inv.of_done` at this hardware's parameters; the register forms by evaluation. -/
theorem invariantsAtReset : Obligations.InvariantsAtReset :=
  ⟨inv_resetOf (by decide), Memory.wf_reset, rfl, rfl, rfl, rfl, rfl⟩

/-- Settles O52: a step is nothing, an idle cycle or an instruction (`step_next_cases`), and every instruction keeps the
invariants (`inv_exec`). -/
theorem stepKeepsInvariant : Obligations.StepKeepsInvariant := by
  intro s t h ht
  rcases step_next_cases ht with ⟨-, rfl⟩ | ⟨_, rest, -, -, rfl⟩ | ⟨_, rest, i, left, -, -, hexec⟩
  · exact h
  · exact h.withInputs rest
  · exact inv_exec (h.withInputs _) hexec

/-- Settles O11: `exec_command_of_inv` for the Commands, `decodeItem_not_cycle` and `presentReply_eq` for the replies. -/
theorem noEffectInstructions : Obligations.NoEffectInstructions := by
  refine ⟨fun _ _ _ => rfl, fun _ _ => rfl, fun i s hi h => exec_command_of_inv h hi,
    fun item rest s t h hin hcycle ht => ?_⟩
  rcases step_next_cases ht with ⟨hnil, -⟩ | ⟨_, _, -, -, rfl⟩ | ⟨item', rest', i, left, hin', hdec, hexec⟩
  · simp [hnil] at hin
  · rfl
  · obtain ⟨rfl, rfl⟩ := List.cons.inj (hin.symm.trans hin')
    obtain ⟨rfl, hi | ⟨rn, hi, lo, rfl⟩ | ⟨pc, epc, crc, hi, lo, rfl⟩⟩ := decodeItem_not_cycle hcycle hdec
    · rw [exec_command_of_inv (h.withInputs _) hi] at hexec
      obtain rfl := Host.Outcome.next.inj hexec
      rfl
    · obtain rfl := Host.Outcome.next.inj hexec
      exact presentReply_eq _ _ _ _
    · obtain rfl := Host.Outcome.next.inj hexec
      exact presentReply_eq _ _ _ _

end Sys2Proof.Machine
end

section
/-! PROOFS. What no instruction changes: the synthesis parameters in any state, and the configuration while the block runs
(rules R6, R44, R93). -/

namespace Sys2Proof.Machine

variable (s : State)

@[simp] theorem afterGate_par (r : State × Option Frame) : (afterGate r).par = r.1.par := by
  rcases afterGate_cases r with ⟨f, -, he⟩ | ⟨-, -, he⟩ | ⟨-, -, he⟩ <;> simp [he]

@[simp] theorem afterGate_cfg (r : State × Option Frame) : (afterGate r).cfg = r.1.cfg := by
  rcases afterGate_cases r with ⟨f, -, he⟩ | ⟨-, -, he⟩ | ⟨-, -, he⟩ <;> simp [he]

/-- `SAMPLE` changes neither the synthesis parameters nor the configuration. -/
theorem sampleStep_keeps_par_cfg {s t : State} {idx : BitVec 32} {i q : BitVec 16}
    (h : sampleStep idx i q s = .next t) : t.par = s.par ∧ t.cfg = s.cfg := by
  rcases sampleStep_next s idx i q t h with ⟨-, rfl⟩ | ⟨-, -, rfl⟩ <;> simp

@[simp] theorem start_par : (start s).par = s.par := by
  rcases start_cases s with ⟨-, he⟩ | ⟨-, -, he⟩ | ⟨-, -, he⟩ <;> simp [he, startInit]

@[simp] theorem start_cfg : (start s).cfg = s.cfg := by
  rcases start_cases s with ⟨-, he⟩ | ⟨-, -, he⟩ | ⟨-, -, he⟩ <;> simp [he, startInit]

@[simp] theorem stop_par : (stop s).par = s.par := by
  rcases stop_cases s with ⟨-, he⟩ | ⟨-, he⟩ <;> rw [he]

@[simp] theorem stop_cfg : (stop s).cfg = s.cfg := by
  rcases stop_cases s with ⟨-, he⟩ | ⟨-, he⟩ <;> rw [he]

@[simp] theorem writeCtrl_par (data : BitVec 32) : (writeCtrl data s).par = s.par := by
  rcases writeCtrl_cases s data with ⟨-, he⟩ | ⟨-, -, he⟩ | ⟨-, -, he⟩ <;> simp [he]

@[simp] theorem writeCtrl_cfg (data : BitVec 32) : (writeCtrl data s).cfg = s.cfg := by
  rcases writeCtrl_cases s data with ⟨-, he⟩ | ⟨-, -, he⟩ | ⟨-, -, he⟩ <;> simp [he]

@[simp] theorem writeConfig_par (addr : BitVec 12) (data : BitVec 32) : (writeConfig addr data s).par = s.par := by
  rcases writeConfig_cases s addr data with ⟨-, he⟩ | ⟨-, -, he⟩ | ⟨-, -, c, -, he⟩ | ⟨-, -, -, he⟩ <;> simp [he]

/-- A running block ignores every configuration write (rule R44). -/
theorem writeConfig_cfg_of_running (hrun : s.rdr.rstate ≠ .done) (addr : BitVec 12) (data : BitVec 32) :
    (writeConfig addr data s).cfg = s.cfg := by
  rcases writeConfig_cases s addr data with ⟨-, he⟩ | ⟨-, -, he⟩ | ⟨-, hd, -⟩ | ⟨-, -, -, he⟩
  · simp [he]
  · rw [he]
  · exact absurd hd hrun
  · simp [he]

@[simp] theorem busWrite_par (addr : BitVec 12) (data : BitVec 32) : (busWrite addr data s).par = s.par := by
  rcases busWrite_cases s addr data with ⟨-, he⟩ | ⟨-, -, he⟩ | ⟨-, -, he⟩ | ⟨-, -, he⟩ | ⟨-, -, -, he⟩ |
    ⟨-, -, -, -, -, he⟩ <;> simp [he]

/-- No bus write changes the configuration of a running block (rule R44). -/
theorem busWrite_cfg_of_running (hrun : s.rdr.rstate ≠ .done) (addr : BitVec 12) (data : BitVec 32) :
    (busWrite addr data s).cfg = s.cfg := by
  rcases busWrite_cases s addr data with ⟨-, he⟩ | ⟨-, -, he⟩ | ⟨-, -, he⟩ | ⟨-, -, he⟩ | ⟨-, -, -, he⟩ |
    ⟨-, -, -, -, -, he⟩ <;> simp [he, writeConfig_cfg_of_running s hrun]

@[simp] theorem busRead_par (addr : BitVec 12) : (busRead addr s).par = s.par := by
  unfold busRead; split <;> rfl

@[simp] theorem busRead_cfg (addr : BitVec 12) : (busRead addr s).cfg = s.cfg := by
  unfold busRead; split <;> rfl

@[simp] theorem busWriteRead_par (addr : BitVec 12) (data : BitVec 32) : (busWriteRead addr data s).par = s.par :=
  busWrite_par s addr data

@[simp] theorem busWriteRead_cfg (addr : BitVec 12) (data : BitVec 32) :
    (busWriteRead addr data s).cfg = (busWrite addr data s).cfg := rfl

@[simp] theorem presentReply_par (bits : List Bool) (hi lo : BitVec 16) : (presentReply bits hi lo s).par = s.par := by
  rw [presentReply_eq]

@[simp] theorem presentReply_cfg (bits : List Bool) (hi lo : BitVec 16) : (presentReply bits hi lo s).cfg = s.cfg := by
  rw [presentReply_eq]

/-- A Command, wherever the Reader stands, changes neither the synthesis parameters nor the configuration. -/
theorem exec_command_keeps_par_cfg {s t : State} {i : Instr} (hi : isCommand i = true) (h : exec i s = .next t) :
    t.par = s.par ∧ t.cfg = s.cfg := by
  cases i with
  | query dr sel session target q crc =>
    rcases execQuery_cases s dr sel session target q crc with ⟨-, -, he⟩ | ⟨-, he⟩ <;>
      obtain rfl := Host.Outcome.next.inj (he.symm.trans h) <;> simp
  | queryRep session =>
    rcases execQueryRep_cases s session with ⟨-, -, he⟩ | ⟨-, he⟩ <;>
      obtain rfl := Host.Outcome.next.inj (he.symm.trans h) <;> simp
  | queryAdjust => obtain rfl := Host.Outcome.next.inj h; simp
  | ack rn =>
    rcases execAck_cases s rn with ⟨-, he⟩ | ⟨-, he⟩ <;>
      obtain rfl := Host.Outcome.next.inj (he.symm.trans h) <;> simp
  | select target action memBank pointer length mask trunc crc =>
    rcases execSelect_cases s target action memBank pointer length mask trunc crc with ⟨-, -, he⟩ | ⟨-, he⟩ <;>
      obtain rfl := Host.Outcome.next.inj (he.symm.trans h) <;> simp
  | _ => cases hi

/-- No instruction changes the synthesis parameters (rule R6). -/
theorem exec_par {s t : State} {i : Instr} (h : exec i s = .next t) : t.par = s.par := by
  cases i with
  | reset => obtain rfl := Host.Outcome.next.inj h; rfl
  | sample => exact (sampleStep_keeps_par_cfg h).1
  | query | queryRep | queryAdjust | ack | select => exact (exec_command_keeps_par_cfg rfl h).1
  | _ => obtain rfl := Host.Outcome.next.inj h; simp

/-- Of the instructions of a running block, only `RESET` changes the configuration (rules R44, R93). -/
theorem exec_cfg_of_running {s t : State} {i : Instr} (hrun : s.rdr.rstate ≠ .done) (hi : i ≠ .reset)
    (h : exec i s = .next t) : t.cfg = s.cfg := by
  cases i with
  | reset => exact absurd rfl hi
  | sample => exact (sampleStep_keeps_par_cfg h).2
  | query | queryRep | queryAdjust | ack | select => exact (exec_command_keeps_par_cfg rfl h).2
  | busWrite | busWriteRead | configWriteLo | configWriteHi =>
    obtain rfl := Host.Outcome.next.inj h
    simp [busWrite_cfg_of_running s hrun, writeConfig_cfg_of_running s hrun]
  | _ => obtain rfl := Host.Outcome.next.inj h; simp

/-- Settles O54: `exec_cfg_of_running` and `exec_par`, by cases on the instruction. -/
theorem configConstantWhileRunning : Obligations.ConfigConstantWhileRunning :=
  ⟨fun _ _ _ hrun hi h => exec_cfg_of_running hrun hi h, fun _ _ _ h => exec_par h⟩

end Sys2Proof.Machine
end

section
/-! PROOFS. The FM0 waveform of a reply (rules R150, R151, R166): how many samples it has, which level each of them stands
for, and how long it can stay low. -/

namespace Sys2Proof.Machine

/-- A bit has two half-symbols (rule R150). -/
theorem fm0Body_length (last : Bool) (bits : List Bool) : (fm0Body last bits).length = 2 * bits.length := by
  induction bits generalizing last with
  | nil => rfl
  | cons b bits ih => simp only [fm0Body, List.length_cons, ih]; ring

/-- A reply has the preamble's 12 half-symbols and two for each bit and for the dummy 1 (rules R150, R151). -/
theorem fm0Halves_length (bits : List Bool) : (fm0Halves bits).length = 14 + 2 * bits.length := by
  simp only [fm0Halves, List.length_append, fm0Body_length, preamble, List.length_cons,
    List.length_nil]
  ring

/-- The levels of a reply's samples: each half-symbol level `sph` times (rule R166). -/
def sampleLevels (sph : Nat) (bits : List Bool) : List Bool := (fm0Halves bits).flatMap (List.replicate sph)

/-- The `I` value of a sample at a level (rule R166). -/
def levelValue (hi lo : BitVec 16) (level : Bool) : BitVec 16 := if level then hi else lo

theorem replySamples_eq_map (sph : Nat) (bits : List Bool) (hi lo : BitVec 16) :
    replySamples sph bits hi lo = (sampleLevels sph bits).map (levelValue hi lo) := by
  simp only [replySamples, sampleLevels, List.map_flatMap, List.map_replicate, levelValue]

/-- A reply has `DEC_SPH` samples for each of its half-symbols. -/
theorem sampleLevels_length (sph : Nat) (bits : List Bool) :
    (sampleLevels sph bits).length = (14 + 2 * bits.length) * sph := by
  simp [sampleLevels, List.length_flatMap, fm0Halves_length]

/-- In a list whose elements are each repeated `p` times, position `k` holds element `k / p`. -/
theorem getElem?_flatMap_replicate {α : Type} (p : Nat) (l : List α) (k : Nat) (hk : k < l.length * p) :
    (l.flatMap (List.replicate p))[k]? = l[k / p]? := by
  have hp : 0 < p := Nat.pos_of_ne_zero fun h0 => by simp [h0] at hk
  induction l generalizing k with
  | nil => simp at hk
  | cons a l ih =>
    rw [List.flatMap_cons]
    by_cases hlt : k < p
    · rw [List.getElem?_append_left (by simpa using hlt), List.getElem?_replicate_of_lt hlt, Nat.div_eq_of_lt hlt]
      rfl
    · have hle : p ≤ k := Nat.le_of_not_lt hlt
      rw [List.length_cons, Nat.succ_mul] at hk
      rw [List.getElem?_append_right (by simpa using hle), List.length_replicate, ih (k - p) (by omega),
        Nat.div_eq_sub_div hp hle]
      rfl

/-- The level of the `k`-th sample is that of the half-symbol it lies in. -/
theorem getElem?_sampleLevels (sph : Nat) (bits : List Bool) (k : Nat) (hk : k < (14 + 2 * bits.length) * sph) :
    (sampleLevels sph bits)[k]? = (fm0Halves bits)[k / sph]? :=
  getElem?_flatMap_replicate sph _ k (by rwa [fm0Halves_length])

/-- Where a level stands in a list, its value is told by whether it is high. -/
theorem levelValue_of_getElem? (hi lo : BitVec 16) {l : List Bool} {k : Nat} {level : Bool} (h : l[k]? = some level) :
    levelValue hi lo level = if l[k]? = some true then hi else lo := by
  simp [h, levelValue]

/-- The instruction is a reply row of the opcode table, with these data bits and amplitudes (rules R152, R153, R166). -/
def ReplyRow (i : Instr) (bits : List Bool) (hi lo : BitVec 16) : Prop :=
  (∃ rn, i = .replyRn16 rn hi lo ∧ bits = bitsOf 16 rn.toNat) ∨
    ∃ pc epc crc, i = .replyId pc epc crc hi lo ∧
      bits = bitsOf 16 pc.toNat ++ bitsOf 96 epc.toNat ++ bitsOf 16 crc.toNat

/-- A reply row presents its reply. -/
theorem exec_reply {i : Instr} {bits : List Bool} {hi lo : BitVec 16} (h : ReplyRow i bits hi lo) (s : State) :
    exec i s = .next (presentReply bits hi lo s) := by
  rcases h with ⟨rn, rfl, rfl⟩ | ⟨pc, epc, crc, rfl, rfl⟩ <;> rfl

/-- What a running block finds pending when a reply arrives: one `SAMPLE` event for each sample of its waveform. -/
theorem presentReply_of_running {s : State} (hrun : s.rdr.rstate ≠ .done) (bits : List Bool) (hi lo : BitVec 16) :
    presentReply bits hi lo s = { s with
      inputs := sampleCycles ((sampleLevels s.cfg.decSph.toNat bits).map (levelValue hi lo)) (nextIndex s) ++
        s.inputs } := by
  rw [presentReply, if_neg hrun, replySamples_eq_map]

/-- Settles O49: `presentReply` in its two cases, with the samples' number and values from the laws of the waveform. -/
theorem replyCompletes : Obligations.ReplyCompletes := by
  intro i bits hi lo s hreply
  rw [exec_reply hreply]
  refine ⟨fun hd => by rw [presentReply, if_pos hd], fun hrun => ?_⟩
  refine ⟨_, congrArg Host.Outcome.next (presentReply_of_running hrun bits hi lo),
    by simp [sampleLevels_length], fun k hk => ?_⟩
  rw [sampleCycles_length, List.length_map, sampleLevels_length] at hk
  have hlevel := getElem?_sampleLevels s.cfg.decSph.toNat bits k hk
  obtain ⟨level, hsome⟩ : ∃ level, (sampleLevels s.cfg.decSph.toNat bits)[k]? = some level :=
    ⟨_, List.getElem?_eq_getElem (by rwa [sampleLevels_length])⟩
  rw [sampleCycles_getElem?, List.getElem?_map, hsome, ← levelValue_of_getElem? hi lo (hlevel.symm.trans hsome)]
  rfl

end Sys2Proof.Machine
end

section
/-! PROOFS. A reply above the noise is framed whole: how long its waveform stays low, what a listening block's sample step
does when it opens or extends a frame, and the run over all samples of the reply. -/

namespace Sys2Proof.Machine

/-! ### How long a waveform stays low -/

/-- The number of low samples in a row after one more sample. -/
def nextLow (low : Nat) (level : Bool) : Nat := if level then 0 else low + 1

/-- From `low` low samples in a row on, no run of low samples exceeds `m`. -/
def LowWithin (m : Nat) : Nat → List Bool → Prop
  | _, [] => True
  | low, level :: levels => nextLow low level ≤ m ∧ LowWithin m (nextLow low level) levels

theorem lowWithin_replicate_false {m low n : Nat} {levels : List Bool} (hn : low + n ≤ m)
    (h : LowWithin m (low + n) levels) : LowWithin m low (List.replicate n false ++ levels) := by
  induction n generalizing low with
  | zero => exact h
  | succ n ih =>
    have hlow : low + 1 + n = low + (n + 1) := by ring
    have hle : nextLow low false ≤ m := show low + 1 ≤ m by omega
    exact ⟨hle, ih (show low + 1 + n ≤ m by omega) (hlow ▸ h)⟩

theorem lowWithin_replicate_true {m low n : Nat} {levels : List Bool} (hn : 0 < n) (h : LowWithin m 0 levels) :
    LowWithin m low (List.replicate n true ++ levels) := by
  induction n generalizing low with
  | zero => exact absurd hn (by omega)
  | succ n ih =>
    refine ⟨Nat.zero_le m, ?_⟩
    rcases Nat.eq_zero_or_pos n with rfl | hpos
    · exact h
    · exact ih hpos

/-- Repeating each level `p` times makes every low run `p` times as long. -/
theorem lowWithin_flatMap_replicate {m low p : Nat} {levels : List Bool} (hp : 0 < p) (h : LowWithin m low levels) :
    LowWithin (m * p) (low * p) (levels.flatMap (List.replicate p)) := by
  induction levels generalizing low with
  | nil => trivial
  | cons level levels ih =>
    obtain ⟨hle, hrest⟩ := h
    rw [List.flatMap_cons]
    cases level with
    | true => exact lowWithin_replicate_true hp (by simpa [nextLow] using ih hrest)
    | false =>
      have hsucc : low * p + p = (low + 1) * p := by ring
      exact lowWithin_replicate_false (hsucc ▸ Nat.mul_le_mul_right p hle) (hsucc ▸ ih hrest)

/-- Between two symbol boundaries an FM0 body is low for at most two half-symbols: it inverts at every boundary (rule
R150). -/
theorem lowWithin_fm0Body (bits : List Bool) (last : Bool) (low : Nat) (h : last = true → low = 0) :
    LowWithin 3 low (fm0Body last bits) := by
  induction bits generalizing last low with
  | nil => trivial
  | cons b bits ih =>
    cases last with
    | true =>
      obtain rfl := h rfl
      cases b with
      | true => exact ⟨by decide, by decide, ih false 2 nofun⟩
      | false => exact ⟨by decide, by decide, ih true 0 fun _ => rfl⟩
    | false =>
      cases b with
      | true => exact ⟨Nat.zero_le 3, Nat.zero_le 3, ih true 0 fun _ => rfl⟩
      | false => exact ⟨Nat.zero_le 3, show 1 ≤ 3 by decide, ih false 1 nofun⟩

/-- An FM0 reply is low for at most three half-symbols, the longest low run of the preamble (rule R376(a)). -/
theorem lowWithin_fm0Halves (bits : List Bool) : LowWithin 3 0 (fm0Halves bits) := by
  have hbody := lowWithin_fm0Body (bits ++ [true]) true 0 fun _ => rfl
  simpa [fm0Halves, preamble, LowWithin, nextLow] using hbody

/-- A reply begins high (rule R151). -/
theorem sampleLevels_eq_cons {sph : Nat} (hp : 0 < sph) (bits : List Bool) :
    ∃ levels, sampleLevels sph bits = true :: levels := by
  obtain ⟨p, rfl⟩ := Nat.exists_eq_add_of_lt hp
  exact ⟨_, by simp [sampleLevels, fm0Halves, preamble, List.replicate_succ]; rfl⟩

/-! ### The sample steps of a listening block -/

/-- The state in which a sample that continues the last index has been noted (rule R170). -/
def noted (idx : BitVec 32) (s : State) : State := { s with lastIdx := idx, haveLast := true }

/-- A sample whose index continues the last one is only noted (rule R179). -/
theorem noteIndex_of_continues {s : State} {idx : BitVec 32} (h : s.haveLast = true → idx = s.lastIdx + 1) :
    noteIndex idx s = noted idx s := by
  have hc : ¬ (s.haveLast = true ∧ idx ≠ s.lastIdx + 1) := fun ⟨hl, hne⟩ => hne (h hl)
  rw [noteIndex, discontCheck, if_neg hc, noted]

/-- While a frame is open, the slot timer only advances (rule R255). -/
theorem slotTick_of_inFrame {s : State} (hg : s.gate.gstate = .inFrame) : slotTick s = ticked s := by
  rcases slotTick_cases s with ⟨-, hidle, -⟩ | ⟨-, he⟩
  · simp [hg] at hidle
  · exact he

/-- `thr_off` does not exceed `thr_on` under a validated configuration (rules R172, R294). -/
theorem thrOff_le_thrOn {s : State} (h : s.cfg.gateKoff.toNat ≤ s.cfg.gateKon.toNat) : thrOff s ≤ thrOn s := by
  have hdiv := Nat.div_le_div_right (c := 16) (Nat.mul_le_mul_left s.gate.nf.toNat h)
  simp only [thrOff, thrOn, threshold, sat32]
  omega

/-- A sample step of a listening block after which a frame is open: the Gate's part, and the slot timer advanced. -/
theorem sampleStep_of_gateStep {s u : State} {idx : BitVec 32} {i q : BitVec 16} (hl : listening s = true)
    (hidx : s.haveLast = true → idx = s.lastIdx + 1) (hfb : fbInRange s = true)
    (hstep : gateStep idx ⟨i, q⟩ (noted idx s) = (u, none)) (hu : u.gate.gstate = .inFrame) :
    sampleStep idx i q s = .next (ticked u) := by
  have hrdr : u.rdr = s.rdr := (congrArg (·.1.rdr) hstep).symm.trans (gateStep_rdr (noted idx s) idx ⟨i, q⟩)
  have hfb' : fbInRange (noted idx s) = true := hfb
  rw [sampleStep, if_neg (running_of_listening hl), noteIndex_of_continues hidx, if_pos hfb', hstep, afterGate,
    if_pos ((listening_congr hrdr).trans hl), slotTick_of_inFrame hu]

/-- `GATE_STEP` on a rising sample with room for a frame opens one (rule R173). -/
theorem gateStep_opens {s : State} {idx : BitVec 32} {x : Sample} (hg : s.gate.gstate = .idle)
    (hrise : thrOn s < energy x.i x.q) (hroom : 1#16 ≠ s.cfg.maxLen) : gateStep idx x s = (openFrame idx x s, none) := by
  rw [gateStep_rise s idx x hg hrise, if_neg hroom]

/-- `GATE_STEP` on a sample with which an open frame neither falls nor fills up adds it (rule R174). -/
theorem gateStep_extends {s : State} {idx : BitVec 32} {x : Sample} (hg : s.gate.gstate = .inFrame)
    (hnofall : (extendFrame x (energy x.i x.q) s).gate.gBelow ≠ s.cfg.hold) (hnofull : s.gate.gLen + 1 ≠ s.cfg.maxLen) :
    gateStep idx x s = (extendFrame x (energy x.i x.q) s, none) := by
  obtain ⟨-, -, -, -, hlen⟩ := extendFrame_gate_keeps s x (energy x.i x.q)
  rw [gateStep_inFrame s idx x hg]
  dsimp only
  rw [extendFrame_cfg, if_neg hnofall, hlen, if_neg hnofull]

/-- A rising sample at a listening block with room for a frame opens one (rules R173, R178). -/
theorem sampleStep_opens {s : State} {idx : BitVec 32} {i q : BitVec 16} (hl : listening s = true)
    (hidx : s.haveLast = true → idx = s.lastIdx + 1) (hg : s.gate.gstate = .idle) (hrise : thrOn s < energy i q)
    (hroom : 1#16 ≠ s.cfg.maxLen) : sampleStep idx i q s = .next (ticked (openFrame idx ⟨i, q⟩ (noted idx s))) :=
  sampleStep_of_gateStep hl hidx (by simp [fbInRange, hg]) (gateStep_opens (s := noted idx s) hg hrise hroom) rfl

/-- A sample with which a listening block's open frame neither falls nor fills up is added to it (rule R174). -/
theorem sampleStep_extends {s : State} {idx : BitVec 32} {i q : BitVec 16} (h : Inv s) (hl : listening s = true)
    (hidx : s.haveLast = true → idx = s.lastIdx + 1) (hg : s.gate.gstate = .inFrame)
    (hnofall : (extendFrame ⟨i, q⟩ (energy i q) s).gate.gBelow ≠ s.cfg.hold) (hnofull : s.gate.gLen + 1 ≠ s.cfg.maxLen) :
    sampleStep idx i q s = .next (ticked (extendFrame ⟨i, q⟩ (energy i q) (noted idx s))) := by
  obtain ⟨-, -, hdepth, -⟩ := validate_bounds _ _ (h.configured (running_of_listening hl))
  obtain ⟨-, hlen, -, hhi⟩ := h.frameBounds hg
  have hlen' : s.gate.gLen.toNat < s.par.fbDepth := by omega
  have hhi' : s.gate.gLastHi.toNat ≤ s.par.fbDepth := by omega
  obtain ⟨hopen, -⟩ := extendFrame_gate_keeps (noted idx s) ⟨i, q⟩ (energy i q)
  exact sampleStep_of_gateStep hl hidx (by simp [fbInRange, hlen', hhi'])
    (gateStep_extends (s := noted idx s) hg hnofall hnofull) (hopen.trans hg)

/-- A `SAMPLE` cycle decodes to its `SAMPLE` and leaves nothing (rule R111). -/
theorem decodeItem_sampleCycle (idx : BitVec 32) (i : BitVec 16) :
    decodeItem (.cycle { cycleOf 0b00001 with sIdx := idx, sI := i }) = .ok (.sample idx i 0, none) := by
  simp [decodeItem, decodeCycle, cycleOf, Cycle.without]

/-- A step over the first of several pending samples runs that sample. -/
theorem step_sampleCycles {s : State} {i : BitVec 16} {is : List (BitVec 16)} {idx : BitVec 32} {rest : List Item}
    (h : s.inputs = sampleCycles (i :: is) idx ++ rest) :
    step s = sampleStep idx i 0 { s with inputs := sampleCycles is (idx + 1) ++ rest } :=
  stepRunsDecodedInstruction s _ _ _ _ h (decodeItem_sampleCycle idx i)

/-! ### A frame that holds the first samples of a reply -/

/-- The slot timer after `n` more samples (rules R8, R255). -/
def waited (r : Reader) (n : Nat) : Reader := { r with tWait := BitVec.ofNat 32 (sat32 (r.tWait.toNat + n)) }

/-- A tick after `n` ticks is the `n + 1`-st, saturated or not. -/
theorem ticked_rdr_of_waited {s : State} {r : Reader} {n : Nat} (h : s.rdr = waited r n) :
    (ticked s).rdr = waited r (n + 1) := by
  have hsat : sat32 ((BitVec.ofNat 32 (sat32 (r.tWait.toNat + n))).toNat + 1) = sat32 (r.tWait.toNat + (n + 1)) := by
    simp only [sat32, BitVec.toNat_ofNat]
    omega
  simp only [ticked, h, waited, hsat]

/-- The frame buffer begins with the samples of the given levels. -/
def HoldsLevels (hi lo : BitVec 16) (levels : List Bool) (m : Memory) : Prop :=
  ∀ (k : Nat) (level : Bool), levels[k]? = some level → m.readFb k = { i := levelValue hi lo level, q := 0 }

theorem HoldsLevels.writeFb {hi lo : BitVec 16} {levels : List Bool} {m : Memory} (h : HoldsLevels hi lo levels m)
    (hmem : m.wf = true) (level : Bool) {n : Nat} (hn : n = levels.length) :
    HoldsLevels hi lo (levels ++ [level]) (m.writeFb n { i := levelValue hi lo level, q := 0 }) := by
  subst hn
  intro k level' hk
  rw [Memory.readFb_writeFb m hmem]
  rcases Nat.lt_trichotomy k levels.length with hlt | rfl | hgt
  · rw [List.getElem?_append_left hlt] at hk
    rw [if_neg (by omega), h k level' hk]
  · rw [List.getElem?_concat_length] at hk
    rw [if_pos rfl, Option.some.inj hk]
  · rw [List.getElem?_eq_none (by simpa using hgt)] at hk
    cases hk

/-- The listening block `s` has taken the samples of the levels `taken`, the last `low` of them at most low: they stand in an
open reply frame that began with the first of them, and nothing but the samples' own registers has changed. -/
structure Framing (s : State) (hi lo : BitVec 16) (taken : List Bool) (low : Nat) (t : State) : Prop where
  inv : Inv t
  memory : t.mem.wf = true
  cfg : t.cfg = s.cfg
  rdr : t.rdr = waited s.rdr taken.length
  isOpen : t.gate.gstate = .inFrame
  isReply : t.gate.gKind = .tagReply
  len : t.gate.gLen.toNat = taken.length
  start : t.gate.gStart = nextIndex s
  floor : t.gate.nf = s.gate.nf
  below : t.gate.gBelow.toNat ≤ low
  haveLast : t.haveLast = true
  lastIdx : t.lastIdx + 1 = nextIndex s + BitVec.ofNat 32 taken.length
  outs : t.outs = s.outs
  tally : t.tally = s.tally
  diag : t.diag = s.diag
  irqPend : t.irqPend = s.irqPend
  samples : HoldsLevels hi lo taken t.mem

section
variable {s t : State} {hi lo : BitVec 16} {taken levels : List Bool} {low m : Nat} {level : Bool} {rest : List Item}

/-- The first sample of a reply opens the frame. -/
theorem framing_first (h : Inv s) (hmem : s.mem.wf = true) (hl : listening s = true) (hg : s.gate.gstate = .idle)
    (hrise : thrOn s < energy hi 0) (hroom : 1 < s.cfg.maxLen.toNat) (lo : BitVec 16) (levels : List Bool)
    (rest : List Item) :
    ∃ u, step { s with
        inputs := sampleCycles ((true :: levels).map (levelValue hi lo)) (nextIndex s) ++ rest } = .next u ∧
      Framing s hi lo [true] 0 u ∧
      u.inputs = sampleCycles (levels.map (levelValue hi lo)) (u.lastIdx + 1) ++ rest := by
  have hne : 1#16 ≠ s.cfg.maxLen := fun heq => by simp [← heq] at hroom
  have hidx : s.haveLast = true → nextIndex s = s.lastIdx + 1 := fun hlast => if_pos hlast
  have hstep := (step_sampleCycles (s := { s with inputs := _ }) rfl).trans (sampleStep_opens
    (s := { s with inputs := sampleCycles (levels.map (levelValue hi lo)) (nextIndex s + 1) ++ rest })
    hl hidx hg hrise hne)
  refine ⟨_, hstep, ?_, rfl⟩
  exact {
    inv := stepKeepsInvariant _ _ (h.withInputs _) hstep
    memory := Memory.wf_writeFb _ hmem _ _
    cfg := rfl
    rdr := rfl
    isOpen := rfl
    isReply := (openingKind_eq_tagReply s).2 hl
    len := rfl
    start := rfl
    floor := rfl
    below := le_rfl
    haveLast := rfl
    lastIdx := rfl
    outs := rfl
    tally := rfl
    diag := rfl
    irqPend := rfl
    samples := HoldsLevels.writeFb (levels := []) nofun hmem true rfl }

/-- How long a frame's run below `thr_off` can get with one more sample of the reply. -/
theorem extendFrame_below (hhigh : thrOff t ≤ energy hi 0) (hbelow : t.gate.gBelow.toNat ≤ low) :
    (extendFrame ⟨levelValue hi lo level, 0⟩ (energy (levelValue hi lo level) 0) t).gate.gBelow.toNat ≤
      nextLow low level := by
  rw [extendFrame_gate]
  cases level with
  | true => exact (if_pos (show thrOff t ≤ energy (levelValue hi lo true) 0 from hhigh)) ▸ le_rfl
  | false =>
    split
    · exact Nat.zero_le _
    · simp only [nextLow, Bool.false_eq_true, if_false]
      bv_omega

/-- One more sample of the reply. -/
theorem framing_next (hl : listening s = true) (hhigh : thrOff s ≤ energy hi 0) (h : Framing s hi lo taken low t)
    (hhold : nextLow low level < s.cfg.hold.toNat) (hroom : taken.length + 1 < s.cfg.maxLen.toNat)
    (hin : t.inputs = sampleCycles ((level :: levels).map (levelValue hi lo)) (t.lastIdx + 1) ++ rest) :
    ∃ u, step t = .next u ∧ Framing s hi lo (taken ++ [level]) (nextLow low level) u ∧
      u.inputs = sampleCycles (levels.map (levelValue hi lo)) (u.lastIdx + 1) ++ rest := by
  have hl' : listening t = true := by rw [← hl, listening, listening, h.rdr]; rfl
  have hthr : thrOff t ≤ energy hi 0 := by rwa [thrOff, h.floor, h.cfg]
  have hbelow := extendFrame_below (lo := lo) (level := level) hthr h.below
  have hnofall : (extendFrame ⟨levelValue hi lo level, 0⟩ (energy (levelValue hi lo level) 0) t).gate.gBelow ≠
      t.cfg.hold := fun heq => by rw [heq, h.cfg] at hbelow; omega
  have hlen1 : (t.gate.gLen + 1).toNat = taken.length + 1 := by have := h.len; bv_omega
  have hnofull : t.gate.gLen + 1 ≠ t.cfg.maxLen := fun heq => by rw [heq, h.cfg] at hlen1; omega
  have hstep := (step_sampleCycles hin).trans
    (sampleStep_extends (s := { t with inputs := _ }) (h.inv.withInputs _) hl' (fun _ => rfl) h.isOpen hnofall hnofull)
  obtain ⟨hopen, hkind, hstart, hnf, hlen⟩ :=
    extendFrame_gate_keeps t ⟨levelValue hi lo level, 0⟩ (energy (levelValue hi lo level) 0)
  refine ⟨_, hstep, ?_, rfl⟩
  exact {
    inv := stepKeepsInvariant _ _ h.inv hstep
    memory := Memory.wf_writeFb _ h.memory _ _
    cfg := h.cfg
    rdr := (ticked_rdr_of_waited h.rdr).trans (by simp)
    isOpen := hopen.trans h.isOpen
    isReply := hkind.trans h.isReply
    len := (congrArg _ hlen).trans (hlen1.trans (by simp))
    start := hstart.trans h.start
    floor := hnf.trans h.floor
    below := hbelow
    haveLast := rfl
    lastIdx := by
      show t.lastIdx + 1 + 1 = _
      rw [h.lastIdx, List.length_append, BitVec.ofNat_add, ← BitVec.add_assoc]
      rfl
    outs := h.outs
    tally := h.tally
    diag := h.diag
    irqPend := h.irqPend
    samples := h.samples.writeFb h.memory level h.len }

/-- A step that answers a next state is the first of a run. -/
theorem run_succ_of_step {u : State} (h : step s = .next u) (n : Nat) :
    Sys2Proof.core.run (n + 1) s = Sys2Proof.core.run n u := by
  have hcore : Sys2Proof.core.step s = .next u := h
  simp only [Host.Core.run, hcore]

/-- All further samples of the reply, as long as its low runs stay below `HOLD` and its length below `MAX_LEN`. -/
theorem framing_run (hl : listening s = true) (hhigh : thrOff s ≤ energy hi 0) (h : Framing s hi lo taken low t)
    (hlow : LowWithin m low levels) (hhold : m < s.cfg.hold.toNat)
    (hroom : taken.length + levels.length < s.cfg.maxLen.toNat)
    (hin : t.inputs = sampleCycles (levels.map (levelValue hi lo)) (t.lastIdx + 1) ++ rest) :
    ∃ u low', Sys2Proof.core.run levels.length t = .next u ∧ Framing s hi lo (taken ++ levels) low' u ∧
      u.inputs = rest := by
  induction levels generalizing taken low t with
  | nil => exact ⟨t, low, rfl, by rwa [List.append_nil], hin⟩
  | cons level levels ih =>
    obtain ⟨hle, hlow⟩ := hlow
    rw [List.length_cons] at hroom
    obtain ⟨u, hstep, hu, hin'⟩ := framing_next hl hhigh h (by omega) (by omega) hin
    obtain ⟨v, low', hrun, hv, hrest⟩ := ih hu hlow (by simp; omega) hin'
    refine ⟨v, low', (run_succ_of_step hstep _).trans hrun, ?_, hrest⟩
    rwa [List.append_assoc, List.singleton_append] at hv

end

/-! ### The reply as a whole -/

/-- A random-number reply decodes back to its instruction (rule R152). -/
theorem decodeItem_encode_replyRn16 (rn hi lo : BitVec 16) :
    decodeItem (encode (.replyRn16 rn hi lo)) = .ok (.replyRn16 rn hi lo, none) := by
  have hrn : BitVec.ofNat 16 (msbFirst (bitsOf 16 rn.toNat)) = rn := by
    rw [msbFirst_bitsOf, Nat.mod_eq_of_lt rn.isLt, BitVec.ofNat_toNat, BitVec.setWidth_eq]
  simp only [encode, decodeItem, decodeReply, bitsOf_length, if_true, hrn]
  rfl

/-- An identifier reply decodes back to its instruction (rule R153). -/
theorem decodeItem_encode_replyId (pc : BitVec 16) (epc : BitVec 96) (crc hi lo : BitVec 16) :
    decodeItem (encode (.replyId pc epc crc hi lo)) = .ok (.replyId pc epc crc hi lo, none) := by
  have hlen : (replyIdBits pc epc crc).length = 128 := by simp [replyIdBits]
  have hpc : fieldAt (replyIdBits pc epc crc) 0 16 = pc.toNat := by
    rw [replyIdBits, List.append_assoc, fieldAt_here, Nat.mod_eq_of_lt pc.isLt]
  have hepc : fieldAt (replyIdBits pc epc crc) 16 96 = epc.toNat := by
    rw [replyIdBits, List.append_assoc, fieldAt_skip _ _ _ _ _ le_rfl, fieldAt_here, Nat.mod_eq_of_lt epc.isLt]
  have hcrc : fieldAt (replyIdBits pc epc crc) 112 16 = crc.toNat := by
    rw [replyIdBits, List.append_assoc, fieldAt_skip _ _ _ _ _ (by decide), fieldAt_skip _ _ _ _ _ le_rfl,
      fieldAt_whole, Nat.mod_eq_of_lt crc.isLt]
  simp only [encode, decodeItem, decodeReply, hlen, hpc, hepc, hcrc, BitVec.ofNat_toNat, BitVec.setWidth_eq]
  rfl

/-- A reply row is the decoding of its own encoding. -/
theorem decodeItem_encode_reply {i : Instr} {bits : List Bool} {hi lo : BitVec 16} (h : ReplyRow i bits hi lo) :
    decodeItem (encode i) = .ok (i, none) := by
  rcases h with ⟨rn, rfl, -⟩ | ⟨pc, epc, crc, rfl, -⟩
  · exact decodeItem_encode_replyRn16 rn hi lo
  · exact decodeItem_encode_replyId pc epc crc hi lo

/-- The step that takes a reply up leaves its samples first in line. -/
theorem step_reply {s : State} {i : Instr} {bits : List Bool} {hi lo : BitVec 16} {rest : List Item}
    (hreply : ReplyRow i bits hi lo) (hin : s.inputs = encode i :: rest) (hrun : s.rdr.rstate ≠ .done) :
    step s = .next { s with
      inputs := sampleCycles ((sampleLevels s.cfg.decSph.toNat bits).map (levelValue hi lo)) (nextIndex s) ++ rest } := by
  rw [stepRunsDecodedInstruction s _ _ _ _ hin (decodeItem_encode_reply hreply), exec_reply hreply]
  exact congrArg Host.Outcome.next (presentReply_of_running (s := { s with inputs := rest }) hrun bits hi lo)

/-- A reply begins high, and after that no low run of its samples exceeds three half-symbols. -/
theorem sampleLevels_cons_lowWithin {sph : Nat} (hp : 0 < sph) (bits : List Bool) :
    ∃ levels, sampleLevels sph bits = true :: levels ∧ LowWithin (3 * sph) 0 levels := by
  obtain ⟨levels, hlevels⟩ := sampleLevels_eq_cons hp bits
  have hlow := lowWithin_flatMap_replicate hp (lowWithin_fm0Halves bits)
  rw [Nat.zero_mul, ← sampleLevels, hlevels] at hlow
  exact ⟨levels, hlevels, hlow.2⟩

/-- Settles O50: one step takes the reply up (`step_reply`), its first sample opens the frame (`framing_first`) and the
others extend it (`framing_run`), as no low run of the waveform lasts until `HOLD` (`sampleLevels_cons_lowWithin`). -/
theorem replyIsFramedWhole : Obligations.ReplyIsFramedWhole := by
  intro i bits hi lo s rest hreply hin h hmem hl hg hrise hhold p n hroom
  obtain ⟨-, -, -, -, hkon, hsph, hmax, -⟩ := validate_bounds _ _ (h.configured (running_of_listening hl))
  obtain ⟨levels, hlevels, hlow⟩ := sampleLevels_cons_lowWithin hsph bits
  have hlen : (sampleLevels p bits).length = n := sampleLevels_length p bits
  have hn : levels.length + 1 = n := by rw [← hlen, hlevels, List.length_cons]
  have hroom1 : 1 < s.cfg.maxLen.toNat := by omega
  have htake := step_reply hreply hin (running_of_listening hl)
  rw [hlevels] at htake
  obtain ⟨u, hstep, hu, hin'⟩ := framing_first h hmem hl hg hrise hroom1 lo levels rest
  obtain ⟨t, low, hsteps, ht, hrest⟩ := framing_run hl ((thrOff_le_thrOn hkon).trans hrise.le) hu hlow hhold
    (by rw [List.length_singleton, Nat.add_comm, hn]; exact hroom) hin'
  rw [List.singleton_append, ← hlevels] at ht
  refine ⟨t, ?_, hrest, ht.isOpen, ht.isReply, ht.len.trans hlen, ht.start, ht.floor, ?_, ht.outs, ht.tally, ht.diag,
    ht.irqPend, fun k hk => ?_⟩
  · rw [Nat.add_comm, run_succ_of_step htake, ← hn, run_succ_of_step hstep, hsteps]
  · rw [ht.rdr, hlen]
    rfl
  · have hhalf := getElem?_sampleLevels p bits k hk
    have hlevel := List.getElem?_eq_getElem (hlen.symm ▸ hk)
    rw [ht.samples k _ hlevel, levelValue_of_getElem? hi lo (hhalf.symm.trans hlevel)]

end Sys2Proof.Machine
end

section
/-! PROOFS. One induction over what the block's procedures are made of: a relation between the state before and after that
holds over each basic update, and over one after another, holds over every procedure and every instruction. -/

namespace Sys2Proof.Machine

/-- The parts of the state that such a relation may speak of; an update of anything else is none of its business. -/
def watched (s : State) : Params × Cfg × DecLast × Memory × BitVec 9 × BitVec 3 × BitVec 32 :=
  (s.par, s.cfg, s.dec, s.mem, s.irqPend, s.rdr.lastCmd, s.tally.tDistinct)

/-- `R` holds over every basic update of the watched parts, each under the guard with which the rules make it, and over
updates one after another. -/
structure UpdateRel (R : State → State → Prop) : Prop where
  trans : ∀ {s t u : State}, R s t → R t u → R s u
  unwatched : ∀ {s t : State}, watched t = watched s → R s t
  raise : ∀ (c : Cause) (s : State), R s (raise c s)
  /-- The Commands the block emits: `QUERY`, `QUERYREP`, `ACK` and `SELECT` (rule R130). -/
  issue : ∀ (k : BitVec 3) (bits : List Bool) (pre : BitVec 1) (s : State), k = 1 ∨ k = 2 ∨ k = 4 ∨ k = 5 →
    R s (issue k bits pre s)
  latchLast : ∀ (d : Decoded) (s : State), R s (latchLast d s)
  writeFb : ∀ (k : Nat) (x : Sample) (s : State), R s { s with mem := s.mem.writeFb k x }
  setHb : ∀ (rn : BitVec 16) (s : State), R s { s with mem := s.mem.setHb rn }
  clearHb : ∀ s : State, R s { s with mem := s.mem.clearHb }
  writeId : ∀ (e : IdEntry) (s : State), s.tally.tDistinct.toNat < s.par.idCap →
    R s { s with mem := s.mem.writeId s.tally.tDistinct.toNat e
                 tally := { s.tally with tDistinct := s.tally.tDistinct + 1 } }
  startClear : ∀ s : State, R s (startClear s)
  storeConfig : ∀ (addr : Nat) (data : BitVec 32) (c : Cfg) (s : State), storeConfig s.cfg addr data = some c →
    R s { s with cfg := c }

/-- Every sample that the Gate stores goes to one entry: the next of the open frame, or the first of a frame (rules R173,
R174). -/
theorem gateStep_mem (s : State) (idx : BitVec 32) (x : Sample) :
    (gateStep idx x s).1.mem = s.mem ∨ (gateStep idx x s).1.mem =
      s.mem.writeFb (if s.gate.gstate = .inFrame then s.gate.gLen.toNat else 0) x := by
  cases hg : s.gate.gstate with
  | idle =>
    by_cases hrise : thrOn s < energy x.i x.q
    · rw [gateStep_rise s idx x hg hrise]
      split <;> simp
    · simp [gateStep_quiet s idx x hg hrise]
  | inFrame =>
    rw [gateStep_inFrame s idx x hg]
    dsimp only
    split
    · simp
    · split <;> simp
  | done => simp [gateStep, hg]

namespace UpdateRel

variable {R : State → State → Prop} (h : UpdateRel R) (s : State)
include h

theorem refl : R s s := h.unwatched rfl

/-- `R` from a state that differs from `s` in nothing watched. -/
theorem before {s t u : State} (hR : R t u) (he : watched t = watched s) : R s u := h.trans (h.unwatched he) hR

/-- `R` to a state that differs from `t` in nothing watched. -/
theorem after {s t u : State} (hR : R s t) (he : watched u = watched t) : R s u := h.trans hR (h.unwatched he)

/-! ### The Reader -/

theorem enterDone : R s (enterDone s) := h.before (h.raise .done _) rfl

theorem emitQuery (dr : BitVec 1) (sel session : BitVec 2) (target : BitVec 1) (q : BitVec 4) (crc : BitVec 5) :
    R s (emitQuery dr sel session target q crc s) := by
  have hissue := h.issue 1 (queryBits dr sel session target q crc) 1
    { s with rdr := { s.rdr with roundNo := s.rdr.roundNo + 1 } } (.inl rfl)
  exact h.after (h.before hissue rfl) rfl

theorem emitQueryRep (session : BitVec 2) : R s (emitQueryRep session s) :=
  h.after (h.issue 2 (queryRepBits session) 0 s (.inr (.inl rfl))) rfl

theorem emitAck (rn : BitVec 16) : R s (emitAck rn s) := by
  have hmark : R s { setRState .slotSuccess s with mem := s.mem.setHb rn, rdr := { s.rdr with lastHandle := rn } } :=
    h.after (h.setHb rn s) rfl
  exact h.after (h.trans hmark (h.issue 4 (ackBits rn) 0 _ (.inr (.inr (.inl rfl))))) rfl

theorem emitSelect (target action : BitVec 3) (memBank : BitVec 2) (pointer : BitVec 7) (length : BitVec 6)
    (mask : BitVec 32) (trunc : BitVec 1) (crc : BitVec 16) :
    R s (emitSelect target action memBank pointer length mask trunc crc s) :=
  h.before (h.issue 5 _ 0 _ (.inr (.inr (.inr rfl)))) rfl

theorem newRound : R s (newRound s) := h.after (h.clearHb s) rfl

theorem roundBegin : R s (roundBegin s) := by
  rcases roundBegin_cases s with ⟨-, he⟩ | ⟨-, -, ⟨-, he⟩ | ⟨-, he⟩⟩ <;> rw [he]
  · exact h.enterDone s
  · exact h.trans (h.newRound s) (h.emitSelect _ _ _ _ _ _ _ _ _)
  · exact h.trans (h.newRound s) (h.emitQuery _ _ _ _ _ _ _)

theorem roundEnd : R s (roundEnd s) := h.before (h.raise .roundEnd _) rfl

theorem slotCounted (o : SlotOutcome) : R s (slotCounted s o) := h.unwatched (by cases o <;> rfl)

theorem endSlot (o : SlotOutcome) : R s (endSlot o s) := by
  rcases endSlot_cases s o with ⟨-, he⟩ | ⟨-, -, he⟩ | ⟨-, -, he⟩ <;> rw [he] <;>
    refine h.trans (h.slotCounted s o) ?_
  · exact h.trans (h.roundEnd _) (h.roundBegin _)
  · exact h.enterDone _
  · exact h.emitQueryRep _ _

theorem recordId (pc : BitVec 16) (epc : BitVec 96) : R s (recordId pc epc s) := by
  rcases recordId_cases s pc epc with ⟨-, he⟩ | ⟨-, hroom, he⟩ | ⟨-, -, he⟩ <;> rw [he]
  · exact h.refl s
  · exact h.trans (h.writeId _ s hroom) (h.raise .idNew _)
  · exact h.raise .idOvf s

theorem ackOrRefuse (rn : BitVec 16) : R s (ackOrRefuse rn s) := by
  rcases ackOrRefuse_cases s rn with ⟨-, he⟩ | ⟨-, he⟩ <;> rw [he]
  · exact h.before (h.endSlot _ _) rfl
  · exact h.emitAck s rn

theorem classify (d : Decoded) : R s (classify d s) := by
  rcases classify_cases s d with ⟨-, -, he⟩ | ⟨-, -, he⟩ | ⟨-, -, he⟩ | ⟨-, -, he⟩ | ⟨-, -, -, he⟩ | ⟨-, -, he⟩ |
    ⟨-, -, he⟩ <;> rw [he]
  · exact h.endSlot s _
  · exact h.endSlot s _
  · exact h.ackOrRefuse s _
  · exact h.refl s
  · exact h.trans (h.recordId s _ _) (h.endSlot _ _)
  · exact h.endSlot s _
  · exact h.refl s

theorem slotTick : R s (slotTick s) := by
  rcases slotTick_cases s with ⟨-, -, he⟩ | ⟨-, he⟩ <;> rw [he]
  · exact h.before (h.classify _ _) rfl
  · exact h.unwatched rfl

theorem onFrame (f : Frame) (d : Decoded) : R s (onFrame f d s) := by
  rcases onFrame_cases s f d with ⟨-, he⟩ | ⟨-, he⟩ <;> rw [he]
  · exact h.unwatched rfl
  · exact h.before (h.classify _ d) (by simp [watched])

theorem txDone : R s (txDone s) := by
  rcases txDone_cases s with ⟨-, he⟩ | ⟨-, -, -, he⟩ | ⟨-, -, -, he⟩ | ⟨-, -, he⟩ <;> rw [he]
  · exact h.raise .spurTxd s
  · exact h.before (h.enterDone _) rfl
  · exact h.before (h.emitQuery _ _ _ _ _ _ _) rfl
  · exact h.unwatched rfl

/-! ### The Gate -/

theorem noteIndex (idx : BitVec 32) : R s (noteIndex idx s) := by
  have hd : R s (discontCheck idx s) := by
    rcases discontCheck_cases s idx with ⟨-, he⟩ | ⟨-, -, -, he⟩ | ⟨-, -, -, he⟩ <;> rw [he]
    · exact h.refl s
    · exact h.after (h.before (h.raise .discont _) rfl) rfl
    · exact h.before (h.raise .discont _) rfl
  exact h.after hd rfl

theorem gateStep (idx : BitVec 32) (x : Sample) : R s (gateStep idx x s).1 := by
  rcases gateStep_mem s idx x with hm | hm
  · exact h.unwatched (by simp [watched, hm])
  · exact h.after (h.writeFb (if s.gate.gstate = .inFrame then s.gate.gLen.toNat else 0) x s) (by simp [watched, hm])

theorem afterGate (r : State × Option Frame) : R r.1 (afterGate r) := by
  rcases afterGate_cases r with ⟨f, -, he⟩ | ⟨-, -, he⟩ | ⟨-, -, he⟩ <;> rw [he]
  · exact h.trans (h.latchLast _ _) (h.onFrame _ f _)
  · exact h.slotTick _
  · exact h.refl _

theorem sampleStep {t : State} {idx : BitVec 32} {i q : BitVec 16} (ht : sampleStep idx i q s = .next t) : R s t := by
  rcases sampleStep_next s idx i q t ht with ⟨-, rfl⟩ | ⟨-, -, rfl⟩
  · exact h.refl _
  · exact h.trans (h.noteIndex s idx) (h.trans (h.gateStep _ idx _) (h.afterGate _))

/-! ### The host interface -/

theorem start : R s (start s) := by
  rcases start_cases s with ⟨-, he⟩ | ⟨-, -, he⟩ | ⟨-, -, he⟩ <;> rw [he]
  · exact h.raise .wrIgn s
  · exact h.before (h.raise .cfgErr _) rfl
  · exact h.trans (h.startClear s) (h.roundBegin _)

theorem stop : R s (stop s) := by
  rcases stop_cases s with ⟨-, he⟩ | ⟨-, he⟩ <;> rw [he]
  · exact h.refl s
  · exact h.unwatched rfl

theorem writeCtrl (data : BitVec 32) : R s (writeCtrl data s) := by
  rcases writeCtrl_cases s data with ⟨-, he⟩ | ⟨-, -, he⟩ | ⟨-, -, he⟩ <;> rw [he]
  · exact h.stop s
  · exact h.start s
  · exact h.refl s

theorem writeConfig (addr : BitVec 12) (data : BitVec 32) : R s (writeConfig addr data s) := by
  rcases writeConfig_cases s addr data with ⟨-, he⟩ | ⟨-, -, he⟩ | ⟨-, -, c, hc, he⟩ | ⟨-, -, -, he⟩ <;> rw [he]
  · exact h.raise .busErr s
  · exact h.refl s
  · exact h.storeConfig _ _ c s hc
  · exact h.raise .wrIgn s

/-- A bus write, but for the acknowledgement of causes, which is no basic update. -/
theorem busWrite (addr : BitVec 12) (data : BitVec 32) :
    R s (busWrite addr data s) ∨ (addr = 0x010 ∧ busWrite addr data s = clearPending data s) := by
  rcases busWrite_cases s addr data with ⟨-, he⟩ | ⟨-, -, he⟩ | ⟨-, ha, he⟩ | ⟨-, -, he⟩ | ⟨-, -, -, he⟩ |
    ⟨-, -, -, -, -, he⟩ <;> rw [he]
  · exact .inl (h.raise .busErr s)
  · exact .inl (h.writeCtrl s data)
  · exact .inr ⟨ha, rfl⟩
  · exact .inl (h.unwatched rfl)
  · exact .inl (h.writeConfig s addr data)
  · exact .inl (h.refl s)

theorem busRead (addr : BitVec 12) : R s (busRead addr s) := by
  unfold Machine.busRead
  split
  · exact h.after (h.raise .busErr s) rfl
  · exact h.unwatched rfl

/-! ### Instructions -/

/-- A Command, wherever the Reader stands. -/
theorem command {t : State} {i : Instr} (hi : isCommand i = true) (ht : exec i s = .next t) : R s t := by
  cases i with
  | query dr sel session target q crc =>
    rcases execQuery_cases s dr sel session target q crc with ⟨-, -, he⟩ | ⟨-, he⟩ <;>
      obtain rfl := Host.Outcome.next.inj (he.symm.trans ht)
    · exact h.emitQuery _ _ _ _ _ _ _
    · exact h.refl _
  | queryRep session =>
    rcases execQueryRep_cases s session with ⟨-, -, he⟩ | ⟨-, he⟩ <;>
      obtain rfl := Host.Outcome.next.inj (he.symm.trans ht)
    · exact h.emitQueryRep _ _
    · exact h.refl _
  | queryAdjust => obtain rfl := Host.Outcome.next.inj ht; exact h.refl _
  | ack rn =>
    rcases execAck_cases s rn with ⟨-, he⟩ | ⟨-, he⟩ <;> obtain rfl := Host.Outcome.next.inj (he.symm.trans ht)
    · exact h.emitAck _ _
    · exact h.refl _
  | select target action memBank pointer length mask trunc crc =>
    rcases execSelect_cases s target action memBank pointer length mask trunc crc with ⟨-, -, he⟩ | ⟨-, he⟩ <;>
      obtain rfl := Host.Outcome.next.inj (he.symm.trans ht)
    · exact h.emitSelect _ _ _ _ _ _ _ _ _
    · exact h.refl _
  | _ => cases hi

theorem presentReply (bits : List Bool) (hi lo : BitVec 16) : R s (presentReply bits hi lo s) := by
  rw [presentReply_eq]
  exact h.unwatched rfl

/-- Every instruction but `RESET` and the acknowledgement of causes, through whichever of its forms, which may be followed
by the `BUS_ERR` of both bus strobes (rule R113). -/
theorem exec {t : State} {i : Instr} (ht : exec i s = .next t) :
    R s t ∨ (i = .reset ∧ t = reset s) ∨ ∃ data, R (clearPending data s) t ∧
      (i = .irqPendW1C data ∨ i = .busWrite 0x010 data ∨ i = .busWriteRead 0x010 data) := by
  cases i with
  | reset => exact .inr (.inl ⟨rfl, (Host.Outcome.next.inj ht).symm⟩)
  | irqPendW1C data =>
    exact .inr (.inr ⟨data, Host.Outcome.next.inj ht ▸ h.refl _, .inl rfl⟩)
  | busWrite addr data =>
    obtain rfl := Host.Outcome.next.inj ht
    rcases h.busWrite s addr data with hw | ⟨rfl, he⟩
    · exact .inl hw
    · exact .inr (.inr ⟨data, he ▸ h.refl _, .inr (.inl rfl)⟩)
  | busWriteRead addr data =>
    obtain rfl := Host.Outcome.next.inj ht
    have hrest : R (Machine.busWrite addr data s) (busWriteRead addr data s) :=
      h.after (h.raise .busErr _) rfl
    rcases h.busWrite s addr data with hw | ⟨rfl, he⟩
    · exact .inl (h.trans hw hrest)
    · exact .inr (.inr ⟨data, he ▸ hrest, .inr (.inr rfl)⟩)
  | busRead addr => exact .inl (Host.Outcome.next.inj ht ▸ h.busRead s addr)
  | txDone => exact .inl (Host.Outcome.next.inj ht ▸ h.txDone s)
  | sample => exact .inl (h.sampleStep s ht)
  | ctrlStart => exact .inl (Host.Outcome.next.inj ht ▸ h.start s)
  | ctrlStop => exact .inl (Host.Outcome.next.inj ht ▸ h.stop s)
  | ctrlStartStop => exact .inl (Host.Outcome.next.inj ht ▸ h.stop s)
  | ctrlNop => exact .inl (Host.Outcome.next.inj ht ▸ h.refl s)
  | irqEnWrite => exact .inl (Host.Outcome.next.inj ht ▸ h.unwatched rfl)
  | configWriteLo off data => exact .inl (Host.Outcome.next.inj ht ▸ h.writeConfig s _ data)
  | configWriteHi off data => exact .inl (Host.Outcome.next.inj ht ▸ h.writeConfig s _ data)
  | replyRn16 rn hi lo => exact .inl (Host.Outcome.next.inj ht ▸ h.presentReply s _ hi lo)
  | replyId pc epc crc hi lo => exact .inl (Host.Outcome.next.inj ht ▸ h.presentReply s _ hi lo)
  | query | queryRep | queryAdjust | ack | select => exact .inl (h.command s rfl ht)

end UpdateRel

/-! ### The forms of the registers and memories -/

/-- Each of the forms that rules R26, R31, R48 and R161 and log entry 12 give the registers and memories is kept. -/
structure KeepsForms (s t : State) : Prop where
  mem : s.mem.wf = true → t.mem.wf = true
  qry : qryHardwired s = true → qryHardwired t = true
  dec : decReservedZero s = true → decReservedZero t = true
  cmd : lastCmdLegal s = true → lastCmdLegal t = true
  distinct : distinctBounded s = true → distinctBounded t = true

/-- The undefined bits of a latched verdict are 0 (rule R212). -/
theorem decReservedZero_latchLast (d : Decoded) (s : State) : decReservedZero (latchLast d s) = true := by
  simp only [decReservedZero, latchLast_dec, Decoded.latch]
  cases d.reason <;> cases d.valid <;> cases d.kind <;> rfl

/-- A store of the configuration keeps `QRY_CFG.M` and `QRY_CFG.TREXT` at their hardwired zeros (rule R48). -/
theorem storeConfig_qryCfg {c c' : Cfg} {addr : Nat} {data : BitVec 32} (h : storeConfig c addr data = some c') :
    c'.qryCfg = c.qryCfg ∨ c'.qryCfg = data.extractLsb' 0 9 &&& qryCfgMask := by
  unfold storeConfig at h
  split at h <;> cases h <;> simp

/-- The forms are kept by every basic update. -/
theorem updateRel_keepsForms : UpdateRel KeepsForms where
  trans h g := ⟨g.mem ∘ h.mem, g.qry ∘ h.qry, g.dec ∘ h.dec, g.cmd ∘ h.cmd, g.distinct ∘ h.distinct⟩
  unwatched h := by
    simp only [watched, Prod.mk.injEq] at h
    obtain ⟨hpar, hcfg, hdec, hmem, -, hcmd, hdist⟩ := h
    constructor <;> simp [qryHardwired, decReservedZero, lastCmdLegal, distinctBounded, *]
  raise c s := ⟨id, id, id, id, id⟩
  issue k bits pre s hk := ⟨id, id, id, fun _ => by rcases hk with rfl | rfl | rfl | rfl <;> rfl, id⟩
  latchLast d s := ⟨id, id, fun _ => decReservedZero_latchLast d s, id, id⟩
  writeFb k x s := ⟨fun h => Memory.wf_writeFb _ h k x, id, id, id, id⟩
  setHb rn s := ⟨fun h => Memory.wf_setHb _ h rn, id, id, id, id⟩
  clearHb s := ⟨fun h => Memory.wf_clearHb _ h, id, id, id, id⟩
  writeId e s hroom := by
    refine ⟨fun h => Memory.wf_writeId _ h _ e, id, id, id, fun _ => ?_⟩
    simp only [distinctBounded, decide_eq_true_eq]
    bv_omega
  startClear s := ⟨fun h => Memory.wf_clearIds _ h, id, fun _ => by simp [decReservedZero], fun _ => rfl,
    fun _ => by simp [distinctBounded]⟩
  storeConfig addr data c s hc := by
    refine ⟨id, fun h => ?_, id, id, id⟩
    simp only [qryHardwired, beq_iff_eq] at h ⊢
    rcases storeConfig_qryCfg hc with he | he <;> rw [he]
    · exact h
    · rw [BitVec.and_assoc]
      exact BitVec.and_zero

/-- `RESET` gives every register and memory its form (rule R58). -/
theorem keepsForms_reset (s : State) : KeepsForms s (reset s) := by
  constructor <;> simp [qryHardwired, decReservedZero, lastCmdLegal, distinctBounded, Memory.wf, Store.wf, reset,
    State.resetOf, Cfg.reset]

/-- The acknowledgement of causes touches none of the forms (rule R292). -/
theorem keepsForms_clearPending (data : BitVec 32) (s : State) : KeepsForms s (clearPending data s) :=
  ⟨id, id, id, id, id⟩

/-- Every instruction keeps the forms. -/
theorem keepsForms_exec {s t : State} {i : Instr} (h : exec i s = .next t) : KeepsForms s t := by
  rcases updateRel_keepsForms.exec s h with hR | ⟨-, rfl⟩ | ⟨data, hR, -⟩
  · exact hR
  · exact keepsForms_reset s
  · exact updateRel_keepsForms.trans (keepsForms_clearPending data s) hR

/-- Settles O53: every instruction keeps the forms (`keepsForms_exec`), as every basic update of its procedures does, and
what a step does to the pending port activity is nothing to them. -/
theorem stepKeepsRegisterForms : Obligations.StepKeepsRegisterForms := by
  intro s t ht
  have keeps : KeepsForms s t := by
    rcases step_next_cases ht with ⟨-, rfl⟩ | ⟨_, rest, -, -, rfl⟩ | ⟨_, rest, i, left, -, -, hexec⟩
    · exact updateRel_keepsForms.refl _
    · exact updateRel_keepsForms.unwatched rfl
    · exact updateRel_keepsForms.before (keepsForms_exec hexec) rfl
  exact ⟨keeps.mem, keeps.qry, keeps.dec, keeps.cmd, keeps.distinct⟩

/-! ### Pending causes -/

/-- Every pending bit stays. -/
def KeepsPending (s t : State) : Prop := ∀ k : Nat, s.irqPend.getLsbD k = true → t.irqPend.getLsbD k = true

/-- Raising a cause clears no pending bit, and no other basic update touches them (rule R320). -/
theorem updateRel_keepsPending : UpdateRel KeepsPending where
  trans h g k := g k ∘ h k
  unwatched h k := by
    simp only [watched, Prod.mk.injEq] at h
    simp [h]
  raise c s k hk := by simp [hk]
  issue _ _ _ _ _ _ := id
  latchLast _ _ _ := id
  writeFb _ _ _ _ := id
  setHb _ _ _ := id
  clearHb _ _ := id
  writeId _ _ _ _ := id
  startClear _ _ := id
  storeConfig _ _ _ _ _ _ := id

/-- Settles O55: every instruction but `RESET` is made of updates that keep the pending bits, or acknowledges causes first,
which clears the bits written 1 alone. -/
theorem pendingBitsStay : Obligations.PendingBitsStay := by
  intro i s t k ht hreset hk
  rcases updateRel_keepsPending.exec s ht with hR | ⟨rfl, -⟩ | ⟨data, hR, hi⟩
  · exact .inl (hR k hk)
  · exact absurd rfl hreset
  · cases hd : data.getLsbD k with
    | true => exact .inr ⟨data, hd, hi⟩
    | false =>
      refine .inl (hR k ?_)
      have hlt : k < 9 := BitVec.lt_of_getLsbD hk
      simp [hk, hd, hlt]

end Sys2Proof.Machine
end

section
/-! PROOFS. What an instruction makes of the Reader and of the command port (rules R33, R240, R241): it leaves both alone,
unless it is a `RESET`, an accepted START, a `TX_DONE`, or a sample of a listening block. -/

namespace Sys2Proof.Machine

variable {s t u : State}

/-! ### The Commands among the outputs -/

@[simp] theorem commandsOf_append (a b : List Output) : commandsOf (a ++ b) = commandsOf a ++ commandsOf b :=
  List.filterMap_append

@[simp] theorem commandsOf_dbg (bytes : List (BitVec 8)) : commandsOf [.dbg bytes] = [] := rfl

@[simp] theorem commandsOf_rdata (v : BitVec 32) : commandsOf [.rdata v] = [] := rfl

@[simp] theorem commandsOf_cmd (c : Command) : commandsOf [.cmd c] = [c] := rfl

/-- A debug record is no Command. -/
@[simp] theorem commandsOf_recorded (s : State) (f : Frame) : commandsOf (recorded s f).outs = commandsOf s.outs := by
  unfold recorded
  split <;> simp

/-- At most one Command has been emitted, and after one the block transmits (rule R241). -/
def EmitsAtMostOne (s t : State) : Prop :=
  ∃ new : List Command, commandsOf t.outs = commandsOf s.outs ++ new ∧ new.length ≤ 1 ∧
    (new ≠ [] → t.rdr.txBusy = true)

theorem emitsAtMostOne_of_silent (h : commandsOf t.outs = commandsOf s.outs) : EmitsAtMostOne s t :=
  ⟨[], by simp [h], by simp, by simp⟩

theorem emitsAtMostOne_of_emits (c : Command) (h : t.outs = s.outs ++ [.cmd c]) (hb : t.rdr.txBusy = true) :
    EmitsAtMostOne s t :=
  ⟨[c], by simp [h], by simp, fun _ => hb⟩

/-- `ROUND_BEGIN` emits the round's Select or Query, or nothing (rule R243). -/
theorem emitsAtMostOne_roundBegin (s : State) : EmitsAtMostOne s (roundBegin s) := by
  rcases roundBegin_cases s with ⟨-, he⟩ | ⟨-, -, ⟨-, he⟩ | ⟨-, he⟩⟩ <;> rw [he]
  · exact emitsAtMostOne_of_silent rfl
  · exact emitsAtMostOne_of_emits _ rfl rfl
  · exact emitsAtMostOne_of_emits _ rfl rfl

/-- `END_SLOT` emits the next round's first Command, the next slot's `QUERYREP`, or nothing (rule R259). -/
theorem emitsAtMostOne_endSlot (s : State) (o : SlotOutcome) : EmitsAtMostOne s (endSlot o s) := by
  rcases endSlot_cases s o with ⟨-, he⟩ | ⟨-, -, he⟩ | ⟨-, -, he⟩ <;> rw [he]
  · exact emitsAtMostOne_roundBegin (roundEnd (slotCounted s o))
  · exact emitsAtMostOne_of_silent rfl
  · exact emitsAtMostOne_of_emits _ rfl rfl

/-- `TX_DONE` emits the Query that follows a Select, or nothing (rule R253). -/
theorem emitsAtMostOne_txDone (s : State) : EmitsAtMostOne s (txDone s) := by
  rcases txDone_cases s with ⟨-, he⟩ | ⟨-, -, -, he⟩ | ⟨-, -, -, he⟩ | ⟨-, -, he⟩ <;> rw [he]
  · exact emitsAtMostOne_of_silent rfl
  · exact emitsAtMostOne_of_silent rfl
  · exact emitsAtMostOne_of_emits _ rfl rfl
  · exact emitsAtMostOne_of_silent rfl

/-! ### The Reader's part of a sample -/

/-- What a decoded reply or a timeout makes of the Reader in a listening state: it stays there or moves on as the table of
rule R240 says, and emits at most one Command. -/
structure SlotStep (s t : State) : Prop where
  move : t.rdr.rstate = s.rdr.rstate ∨
    (s.rdr.rstate = .awaitSlotReply ∧
      (t.rdr.rstate = .ackSequence ∨ t.rdr.rstate = .roundStart ∨ t.rdr.rstate = .done)) ∨
    (s.rdr.rstate = .ackSequence ∧
      (t.rdr.rstate = .awaitSlotReply ∨ t.rdr.rstate = .roundStart ∨ t.rdr.rstate = .done))
  emits : EmitsAtMostOne s t

/-- The step of a state that differs from `s` neither in `RSTATE` nor in its Commands. -/
theorem SlotStep.before (h : SlotStep u t) (hr : u.rdr.rstate = s.rdr.rstate)
    (hc : commandsOf u.outs = commandsOf s.outs) : SlotStep s t where
  move := by rw [← hr]; exact h.move
  emits := by rw [EmitsAtMostOne, ← hc]; exact h.emits

theorem slotStep_of_silent (hr : t.rdr.rstate = s.rdr.rstate) (hc : commandsOf t.outs = commandsOf s.outs) :
    SlotStep s t := ⟨.inl hr, emitsAtMostOne_of_silent hc⟩

/-- A round begins with a Select or a Query, or the block stops (rule R243). -/
theorem roundBegin_rstate (s : State) :
    (roundBegin s).rdr.rstate = .awaitSlotReply ∨ (roundBegin s).rdr.rstate = .roundStart ∨
      (roundBegin s).rdr.rstate = .done := by
  rcases roundBegin_cases s with ⟨-, he⟩ | ⟨-, -, ⟨-, he⟩ | ⟨-, he⟩⟩ <;> rw [he] <;> simp

/-- The states that `END_SLOT` leads to (rule R240). -/
theorem endSlot_rstate (s : State) (o : SlotOutcome) :
    (endSlot o s).rdr.rstate = .awaitSlotReply ∨ (endSlot o s).rdr.rstate = .roundStart ∨
      (endSlot o s).rdr.rstate = .done := by
  rcases endSlot_cases s o with ⟨-, he⟩ | ⟨-, -, he⟩ | ⟨-, -, he⟩ <;> rw [he]
  · exact roundBegin_rstate _
  · exact .inr (.inr rfl)
  · exact .inl rfl

/-- `END_SLOT` in a listening state (rule R259). -/
theorem slotStep_endSlot (hr : s.rdr.rstate = .awaitSlotReply ∨ s.rdr.rstate = .ackSequence) (o : SlotOutcome) :
    SlotStep s (endSlot o s) := by
  refine ⟨?_, emitsAtMostOne_endSlot s o⟩
  rcases hr with hr | hr
  · rcases endSlot_rstate s o with he | he
    · exact .inl (he.trans hr.symm)
    · exact .inr (.inl ⟨hr, .inr he⟩)
  · exact .inr (.inr ⟨hr, endSlot_rstate s o⟩)

/-- `ACK_OR_REFUSE` in `AWAIT_SLOT_REPLY` (rule R252). -/
theorem slotStep_ackOrRefuse (hr : s.rdr.rstate = .awaitSlotReply) (rn : BitVec 16) :
    SlotStep s (ackOrRefuse rn s) := by
  rcases ackOrRefuse_cases s rn with ⟨-, he⟩ | ⟨-, he⟩ <;> rw [he]
  · refine SlotStep.before (slotStep_endSlot (.inl ?_) _) rfl rfl
    exact hr
  · exact ⟨.inr (.inl ⟨hr, .inl rfl⟩), emitsAtMostOne_of_emits _ rfl rfl⟩

/-- `CLASSIFY` (rules R251, R254). -/
theorem slotStep_classify (s : State) (d : Decoded) : SlotStep s (classify d s) := by
  rcases classify_cases s d with ⟨hr, -, he⟩ | ⟨hr, -, he⟩ | ⟨hr, -, he⟩ | ⟨-, -, he⟩ | ⟨hr, -, -, he⟩ | ⟨hr, -, he⟩ |
    ⟨-, -, he⟩ <;> rw [he]
  · exact slotStep_endSlot (.inl hr) _
  · exact slotStep_endSlot (.inl hr) _
  · exact slotStep_ackOrRefuse hr _
  · exact slotStep_of_silent rfl rfl
  · have hrdr := recordId_rdr s d.pc d.epc
    exact (slotStep_endSlot (.inr (hrdr ▸ hr)) _).before (congrArg _ hrdr) (congrArg _ (recordId_outs s d.pc d.epc))
  · exact slotStep_endSlot (.inr hr) _
  · exact slotStep_of_silent rfl rfl

/-- The Reader's part of a sample step (rules R170, R250, R255). -/
theorem slotStep_afterGate (r : State × Option Frame) : SlotStep r.1 (afterGate r) := by
  rcases afterGate_cases r with ⟨f, -, he⟩ | ⟨-, -, he⟩ | ⟨-, -, he⟩ <;> rw [he]
  · rcases onFrame_cases (latchLast _ r.1) f (decode r.1 f (expect r.1)) with ⟨-, he⟩ | ⟨-, he⟩ <;> rw [he]
    · exact slotStep_of_silent rfl rfl
    · exact (slotStep_classify _ _).before (by simp) (by simp)
  · rcases slotTick_cases r.1 with ⟨-, -, he⟩ | ⟨-, he⟩ <;> rw [he]
    · exact (slotStep_classify _ _).before rfl rfl
    · exact slotStep_of_silent rfl rfl
  · exact slotStep_of_silent rfl rfl

/-- Every sample makes of the Reader what one slot's step makes of it. -/
theorem slotStep_sampleStep {idx : BitVec 32} {i q : BitVec 16} (ht : sampleStep idx i q s = .next t) :
    SlotStep s t := by
  rcases sampleStep_next s idx i q t ht with ⟨-, rfl⟩ | ⟨-, -, rfl⟩
  · exact slotStep_of_silent rfl rfl
  · exact (slotStep_afterGate _).before (by simp) (by simp)

/-- A block that does not listen drops every frame, and its slot timer stands still: a sample changes no register of the
Reader and emits nothing (rules R250, R255). -/
theorem sampleStep_of_not_listening (h : Inv s) (hl : listening s = false) {idx : BitVec 32} {i q : BitVec 16}
    (ht : sampleStep idx i q s = .next t) : t.rdr = s.rdr ∧ t.outs = s.outs := by
  rcases sampleStep_next s idx i q t ht with ⟨-, rfl⟩ | ⟨hrun, -, rfl⟩
  · exact ⟨rfl, rfl⟩
  obtain ⟨-, hclosed⟩ := gateResult_gateStep (inv_noteIndex h idx) (by rwa [noteIndex_rdr]) idx ⟨i, q⟩
  have hdeaf : listening (gateStep idx ⟨i, q⟩ (noteIndex idx s)).1 = false :=
    (listening_congr (by simp)).trans hl
  rcases afterGate_cases (gateStep idx ⟨i, q⟩ (noteIndex idx s)) with ⟨f, hf, he⟩ | ⟨-, hlistens, -⟩ | ⟨-, -, he⟩
  · rw [he]
    rcases onFrame_cases (latchLast _ _) f _ with ⟨-, he⟩ | ⟨hk, -⟩
    · rw [he]; simp
    · exact absurd ((hclosed f hf).2 hk) (by simp [hdeaf])
  · simp [hdeaf] at hlistens
  · rw [he]; simp

/-! ### Instructions -/

/-- The Reader stays where it is, with its Command outstanding or none, and no Command is emitted. -/
def Quiet (s t : State) : Prop :=
  t.rdr.rstate = s.rdr.rstate ∧ t.rdr.txBusy = s.rdr.txBusy ∧ commandsOf t.outs = commandsOf s.outs

theorem quiet_refl (s : State) : Quiet s s := ⟨rfl, rfl, rfl⟩

theorem quiet_of_eq (hr : t.rdr = s.rdr) (ho : t.outs = s.outs) : Quiet s t :=
  ⟨congrArg _ hr, congrArg _ hr, congrArg _ ho⟩

/-- `START_INIT` has been run from `DONE` with a valid configuration: the Reader and the Commands are as it leaves them. -/
def Started (s t : State) : Prop :=
  s.rdr.rstate = .done ∧ validate s.par s.cfg = 0 ∧ Quiet (startInit s) t

/-- START is refused, or starts a run (rule R293). -/
theorem quiet_or_started_start (s : State) : Quiet s (start s) ∨ Started s (start s) := by
  rcases start_cases s with ⟨-, he⟩ | ⟨-, -, he⟩ | ⟨hd, hv, he⟩ <;> rw [he]
  · exact .inl (quiet_of_eq rfl rfl)
  · exact .inl (quiet_of_eq rfl rfl)
  · exact .inr ⟨hd, hv, quiet_refl _⟩

/-- STOP only notes the request (rule R296). -/
theorem quiet_stop (s : State) : Quiet s (stop s) := by
  rcases stop_cases s with ⟨-, he⟩ | ⟨-, he⟩ <;> rw [he]
  · exact quiet_refl s
  · exact ⟨rfl, rfl, rfl⟩

/-- A configuration write (rule R44). -/
theorem quiet_writeConfig (s : State) (addr : BitVec 12) (data : BitVec 32) : Quiet s (writeConfig addr data s) := by
  rcases writeConfig_cases s addr data with ⟨-, he⟩ | ⟨-, -, he⟩ | ⟨-, -, c, -, he⟩ | ⟨-, -, -, he⟩ <;> rw [he] <;>
    exact quiet_of_eq rfl rfl

/-- Of the bus writes only a write of `CTRL` can start a run (rules R42, R290). -/
theorem quiet_or_started_busWrite (s : State) (addr : BitVec 12) (data : BitVec 32) :
    Quiet s (busWrite addr data s) ∨ (addr = 0x008 ∧ Started s (busWrite addr data s)) := by
  rcases busWrite_cases s addr data with ⟨-, he⟩ | ⟨-, ha, he⟩ | ⟨-, -, he⟩ | ⟨-, -, he⟩ | ⟨-, -, -, he⟩ |
    ⟨-, -, -, -, -, he⟩ <;> rw [he]
  · exact .inl (quiet_of_eq rfl rfl)
  · rcases writeCtrl_cases s data with ⟨-, he⟩ | ⟨-, -, he⟩ | ⟨-, -, he⟩ <;> rw [he]
    · exact .inl (quiet_stop s)
    · exact (quiet_or_started_start s).imp_right (And.intro ha)
    · exact .inl (quiet_refl s)
  · exact .inl (quiet_of_eq rfl rfl)
  · exact .inl (quiet_of_eq rfl rfl)
  · exact .inl (quiet_writeConfig s addr data)
  · exact .inl (quiet_refl s)

/-- A bus read puts a word on the bus, which is no Command (rule R291). -/
theorem quiet_busRead (s : State) (addr : BitVec 12) : Quiet s (busRead addr s) := by
  unfold busRead
  split <;> exact ⟨rfl, rfl, by simp⟩

/-- The `BUS_ERR` and the word of both bus strobes change nothing of the Reader (rule R113). -/
theorem quiet_busWriteRead {addr : BitVec 12} {data : BitVec 32} (h : Quiet u (busWrite addr data s)) :
    Quiet u (busWriteRead addr data s) := by
  obtain ⟨hr, hb, hc⟩ := h
  exact ⟨hr, hb, by simpa [busWriteRead] using hc⟩

/-- The host writes of `CTRL` that can start a run (rules R42, R290). -/
def MayStart (i : Instr) : Prop := (∃ r, i = .ctrlStart r) ∨ ∃ d, i = .busWrite 0x008 d ∨ i = .busWriteRead 0x008 d

/-- Everything an instruction can make of the Reader and of the command port in a good state. -/
theorem exec_reader_cases (h : Inv s) {i : Instr} (ht : exec i s = .next t) :
    Quiet s t ∨ (i = .reset ∧ t = reset s) ∨ (MayStart i ∧ Started s t) ∨ (i = .txDone ∧ t = txDone s) ∨
      ((∃ idx a q, i = .sample idx a q) ∧ listening s = true ∧ SlotStep s t) := by
  cases i with
  | reset => exact .inr (.inl ⟨rfl, (Host.Outcome.next.inj ht).symm⟩)
  | txDone => exact .inr (.inr (.inr (.inl ⟨rfl, (Host.Outcome.next.inj ht).symm⟩)))
  | sample idx a q =>
    cases hl : listening s with
    | true => exact .inr (.inr (.inr (.inr ⟨⟨idx, a, q, rfl⟩, rfl, slotStep_sampleStep ht⟩)))
    | false =>
      obtain ⟨hr, ho⟩ := sampleStep_of_not_listening h hl ht
      exact .inl (quiet_of_eq hr ho)
  | ctrlStart r =>
    obtain rfl := Host.Outcome.next.inj ht
    exact (quiet_or_started_start s).imp_right fun hs => .inr (.inl ⟨.inl ⟨r, rfl⟩, hs⟩)
  | busWrite addr data =>
    obtain rfl := Host.Outcome.next.inj ht
    refine (quiet_or_started_busWrite s addr data).imp_right fun ⟨ha, hs⟩ => .inr (.inl ⟨?_, hs⟩)
    exact .inr ⟨data, .inl (ha ▸ rfl)⟩
  | busWriteRead addr data =>
    obtain rfl := Host.Outcome.next.inj ht
    refine (quiet_or_started_busWrite s addr data).imp quiet_busWriteRead fun ⟨ha, hd, hv, hs⟩ => .inr (.inl ⟨?_, ?_⟩)
    · exact .inr ⟨data, .inr (ha ▸ rfl)⟩
    · exact ⟨hd, hv, quiet_busWriteRead hs⟩
  | busRead addr => exact .inl (Host.Outcome.next.inj ht ▸ quiet_busRead s addr)
  | ctrlStop | ctrlStartStop => exact .inl (Host.Outcome.next.inj ht ▸ quiet_stop s)
  | ctrlNop => exact .inl (Host.Outcome.next.inj ht ▸ quiet_refl s)
  | irqPendW1C | irqEnWrite => exact .inl (Host.Outcome.next.inj ht ▸ quiet_of_eq rfl rfl)
  | configWriteLo | configWriteHi => exact .inl (Host.Outcome.next.inj ht ▸ quiet_writeConfig s _ _)
  | replyRn16 | replyId =>
    obtain rfl := Host.Outcome.next.inj ht
    exact .inl (by rw [presentReply_eq]; exact quiet_of_eq rfl rfl)
  | query | queryRep | queryAdjust | ack | select =>
    exact .inl (Host.Outcome.next.inj ((exec_command_of_inv h rfl).symm.trans ht) ▸ quiet_refl s)

/-- Settles O57: of what an instruction can do (`exec_reader_cases`), an accepted START and a listening sample emit with no
Command outstanding, and `TX_DONE` as the outstanding one ends. -/
theorem oneCommandAtATime : Obligations.OneCommandAtATime := by
  intro i s t h ht
  rcases exec_reader_cases h ht with ⟨-, hb, hc⟩ | ⟨rfl, rfl⟩ | ⟨-, hd, -, -, hb, hc⟩ | ⟨rfl, rfl⟩ | ⟨-, hl, -, hemits⟩
  · exact ⟨⟨[], by simp [hc]⟩, fun hs => .inl (hb.trans hs)⟩
  · exact ⟨⟨[], by simp [reset]⟩, fun _ => .inr (.inr rfl)⟩
  · have hfree := (h.doneQuiet hd).1
    obtain ⟨new, hnew, hlen, hbusy⟩ : EmitsAtMostOne s (startInit s) := emitsAtMostOne_roundBegin (startClear s)
    exact ⟨⟨new, hc.trans hnew, hlen, fun hne => ⟨hb.trans (hbusy hne), .inl hfree⟩⟩, fun hs => by simp [hfree] at hs⟩
  · obtain ⟨new, hnew, hlen, hbusy⟩ := emitsAtMostOne_txDone s
    exact ⟨⟨new, hnew, hlen, fun hne => ⟨hbusy hne, .inr rfl⟩⟩, fun _ => .inr (.inl rfl)⟩
  · have hfree := ((listening_iff s).1 hl).2
    obtain ⟨new, hnew, hlen, hbusy⟩ := hemits
    exact ⟨⟨new, hnew, hlen, fun hne => ⟨hbusy hne, .inl hfree⟩⟩, fun hs => by simp [hfree] at hs⟩

/-- An accepted START begins a round: nothing has asked it to stop, and `MAX_ROUNDS` is not 0 (rules R243, R294, R295). -/
theorem startInit_rstate (hv : validate s.par s.cfg = 0) :
    (startInit s).rdr.rstate = .roundStart ∨ (startInit s).rdr.rstate = .awaitSlotReply := by
  obtain ⟨-, -, -, -, -, -, -, -, -, -, hrounds, -⟩ := validate_bounds _ _ hv
  rcases roundBegin_cases (startClear s) with ⟨hstop | hmax, -⟩ | ⟨-, -, ⟨-, he⟩ | ⟨-, he⟩⟩
  · simp at hstop
  · simp at hmax; omega
  · exact .inl (by rw [startInit, he]; rfl)
  · exact .inr (by rw [startInit, he]; rfl)

/-- `TX_DONE` moves the Reader from `ROUND_START` alone (rule R253). -/
theorem txDone_rstate (s : State) :
    (txDone s).rdr.rstate = s.rdr.rstate ∨ (s.rdr.rstate = .roundStart ∧
      ((s.rdr.stopReq = true ∧ (txDone s).rdr.rstate = .done) ∨
        (s.rdr.stopReq = false ∧ (txDone s).rdr.rstate = .awaitSlotReply))) := by
  rcases txDone_cases s with ⟨-, he⟩ | ⟨-, hr, hstop, he⟩ | ⟨-, hr, hgo, he⟩ | ⟨-, -, he⟩ <;> rw [he]
  · exact .inl rfl
  · exact .inr ⟨hr, .inl ⟨hstop, rfl⟩⟩
  · exact .inr ⟨hr, .inr ⟨hgo, rfl⟩⟩
  · exact .inl rfl

/-- Settles O60: of what an instruction can do (`exec_reader_cases`), each that moves the Reader moves it along the table. -/
theorem readerTransitions : Obligations.ReaderTransitions := by
  intro i s t h ht
  rcases exec_reader_cases h ht with ⟨hr, -⟩ | ⟨hi, rfl⟩ | ⟨hi, hd, hv, hr, -⟩ | ⟨hi, rfl⟩ | ⟨hi, hl, hmove, -⟩
  · exact .inl hr
  · exact .inr (.inl ⟨hi, rfl⟩)
  · exact .inr (.inr (.inl ⟨hi, hd, hv, hr ▸ startInit_rstate hv⟩))
  · exact (txDone_rstate s).imp_right fun hm => .inr (.inr (.inl ⟨hi, hm⟩))
  · exact hmove.imp_right fun hm => .inr (.inr (.inr ⟨hi, hl, hm⟩))

end Sys2Proof.Machine
end

section
/-! PROOFS. The sample step of a running block in a good state (rule R170): it completes, and it closes a frame by a fall or
by force (rules R174 to R177). -/

namespace Sys2Proof.Machine

variable {s : State}

/-! ### A sample completes -/

/-- Every frame-buffer entry that a sample can touch exists (rules R83, R294). -/
theorem fbInRange_of_inv (h : Inv s) : fbInRange s = true := by
  rcases h.goodGate with hg | ⟨hg, hrun, -, -, hlen, -, hhi⟩
  · simp [fbInRange, hg]
  · obtain ⟨-, -, hdepth, -⟩ := validate_bounds _ _ (h.configured hrun)
    have hlen' : s.gate.gLen.toNat < s.par.fbDepth := by omega
    have hhi' : s.gate.gLastHi.toNat ≤ s.par.fbDepth := by omega
    simp [fbInRange, hlen', hhi']

@[simp] theorem noteIndex_lastIdx (s : State) (idx : BitVec 32) : (noteIndex idx s).lastIdx = idx := rfl

@[simp] theorem noteIndex_haveLast (s : State) (idx : BitVec 32) : (noteIndex idx s).haveLast = true := rfl

/-- What a sample of a running block answers (rule R170). -/
theorem sampleStep_of_inv (h : Inv s) (hrun : s.rdr.rstate ≠ .done) (idx : BitVec 32) (i q : BitVec 16) :
    sampleStep idx i q s = .next (afterGate (gateStep idx ⟨i, q⟩ (noteIndex idx s))) := by
  rw [sampleStep, if_neg hrun]
  exact if_pos (fbInRange_of_inv (inv_noteIndex h idx))

section
variable (r : State × Option Frame)
/-! The Reader's part of a sample step, field by field. -/
@[simp] theorem afterGate_lastIdx : (afterGate r).lastIdx = r.1.lastIdx := by
  rcases afterGate_cases r with ⟨f, -, he⟩ | ⟨-, -, he⟩ | ⟨-, -, he⟩ <;> simp [he]
@[simp] theorem afterGate_haveLast : (afterGate r).haveLast = r.1.haveLast := by
  rcases afterGate_cases r with ⟨f, -, he⟩ | ⟨-, -, he⟩ | ⟨-, -, he⟩ <;> simp [he]
@[simp] theorem afterGate_irqEn : (afterGate r).irqEn = r.1.irqEn := by
  rcases afterGate_cases r with ⟨f, -, he⟩ | ⟨-, -, he⟩ | ⟨-, -, he⟩ <;> simp [he]
@[simp] theorem afterGate_cfgErr : (afterGate r).cfgErr = r.1.cfgErr := by
  rcases afterGate_cases r with ⟨f, -, he⟩ | ⟨-, -, he⟩ | ⟨-, -, he⟩ <;> simp [he]
@[simp] theorem afterGate_cfgErrCode : (afterGate r).cfgErrCode = r.1.cfgErrCode := by
  rcases afterGate_cases r with ⟨f, -, he⟩ | ⟨-, -, he⟩ | ⟨-, -, he⟩ <;> simp [he]
@[simp] theorem afterGate_inputs : (afterGate r).inputs = r.1.inputs := by
  rcases afterGate_cases r with ⟨f, -, he⟩ | ⟨-, -, he⟩ | ⟨-, -, he⟩ <;> simp [he]
@[simp] theorem afterGate_mem_fb : (afterGate r).mem.fb = r.1.mem.fb := by
  rcases afterGate_cases r with ⟨f, -, he⟩ | ⟨-, -, he⟩ | ⟨-, -, he⟩ <;> simp [he]
end

/-- A read of the frame buffer sees the frame buffer alone. -/
theorem Memory.readFb_congr {m n : Memory} (h : m.fb = n.fb) (k : Nat) : m.readFb k = n.readFb k := by
  rw [Memory.readFb, Memory.readFb, h]

/-- A read of the identifier store sees the identifier store alone. -/
theorem Memory.readId_congr {m n : Memory} (h : m.ids = n.ids) (k : Nat) : m.readId k = n.readId k := by
  rw [Memory.readId, Memory.readId, h]

/-- `RECORD_ID` stores at `T_DISTINCT` alone (rule R258). -/
theorem recordId_readId (hmem : s.mem.wf = true) (pc : BitVec 16) (epc : BitVec 96) {k : Nat}
    (hk : k ≠ s.tally.tDistinct.toNat) : (recordId pc epc s).mem.readId k = s.mem.readId k := by
  rcases recordId_cases s pc epc with ⟨-, he⟩ | ⟨-, -, he⟩ | ⟨-, -, he⟩ <;> rw [he]
  · rw [raise_mem, Memory.readId_writeId _ hmem, if_neg hk]
  · rw [raise_mem]

/-- `CLASSIFY` touches no identifier but the one at `T_DISTINCT` (rules R251, R254). -/
theorem classify_readId (hmem : s.mem.wf = true) (d : Decoded) {k : Nat} (hk : k ≠ s.tally.tDistinct.toNat) :
    (classify d s).mem.readId k = s.mem.readId k := by
  rcases classify_cases s d with ⟨-, -, he⟩ | ⟨-, -, he⟩ | ⟨-, -, he⟩ | ⟨-, -, he⟩ | ⟨-, -, -, he⟩ | ⟨-, -, he⟩ |
    ⟨-, -, he⟩ <;> rw [he]
  · exact Memory.readId_congr (endSlot_mem_ids _ _) k
  · exact Memory.readId_congr (endSlot_mem_ids _ _) k
  · exact Memory.readId_congr (ackOrRefuse_mem_ids _ _) k
  · exact (Memory.readId_congr (endSlot_mem_ids _ _) k).trans (recordId_readId hmem d.pc d.epc hk)
  · exact Memory.readId_congr (endSlot_mem_ids _ _) k

/-- The Reader's part of a sample step touches no identifier but the one at `T_DISTINCT`. -/
theorem afterGate_readId (r : State × Option Frame) (hmem : r.1.mem.wf = true) {k : Nat}
    (hk : k ≠ r.1.tally.tDistinct.toNat) : (afterGate r).mem.readId k = r.1.mem.readId k := by
  rcases afterGate_cases r with ⟨f, -, he⟩ | ⟨-, -, he⟩ | ⟨-, -, he⟩ <;> rw [he]
  · rcases onFrame_cases (latchLast _ r.1) f (decode r.1 f (expect r.1)) with ⟨-, he⟩ | ⟨-, he⟩ <;> rw [he]
    · rfl
    · rw [classify_readId (by simpa) _ (by simpa), recorded_mem, latchLast_mem]
  · rcases slotTick_cases r.1 with ⟨-, -, he⟩ | ⟨-, he⟩ <;> rw [he]
    · refine classify_readId ?_ _ ?_
      · exact hmem
      · exact hk
    · rfl

/-- Settles O34: under the invariants the sample's access is in range (`fbInRange_of_inv`), the Gate writes one frame-buffer
entry (`gateStep_mem`), and the Reader stores an identifier at `T_DISTINCT` alone (`afterGate_readId`). -/
theorem sampleCompletes : Obligations.SampleCompletes := by
  intro idx i q s h hmem hrun
  refine ⟨_, sampleStep_of_inv h hrun idx i q, by simp, by simp, by simp, by simp, by simp, by simp, by simp,
    fun k hk => ?_, fun k hk => ?_⟩
  · rw [Memory.readFb_congr (afterGate_mem_fb _)]
    rcases gateStep_mem (noteIndex idx s) idx ⟨i, q⟩ with hm | hm <;> rw [hm, noteIndex_mem]
    rw [Memory.readFb_writeFb _ hmem, if_neg hk]
  · have hwf := (updateRel_keepsForms.gateStep (noteIndex idx s) idx ⟨i, q⟩).mem (by simpa)
    rw [afterGate_readId _ hwf (by simpa), Memory.readId_congr (gateStep_mem_ids _ idx _), noteIndex_mem]

/-! ### The close of a frame -/

/-- The sample completes a fall: it is below `thr_off` and the run of samples below reaches `HOLD` (rule R174). -/
def Falls (s : State) (x : Sample) : Prop :=
  energy x.i x.q < thrOff s ∧ s.gate.gBelow.toNat + 1 = s.cfg.hold.toNat

/-- The state in which a sample has closed the open frame: it is stored behind the frame's last one, its index is noted and
the Gate is reset (rules R170, R174, R180). -/
def closedFrame (idx : BitVec 32) (x : Sample) (s : State) : State :=
  { s with
    lastIdx := idx, haveLast := true, mem := s.mem.writeFb s.gate.gLen.toNat x
    gate := { s.gate with gstate := .idle, gLen := 0, gLastHi := 0, gBelow := 0, gKind := .r2tGap, gStart := 0 } }

/-- The state in which a fall has closed a frame that is a blip (rule R177). -/
def blipped (idx : BitVec 32) (x : Sample) (s : State) : State :=
  { closedFrame idx x s with diag := { s.diag with blipCnt := s.diag.blipCnt + 1 } }

/-- The frame that closes with a length. -/
def closingFrame (s : State) (len : BitVec 16) (forced : Bool) : Frame :=
  { kind := s.gate.gKind, start := s.gate.gStart, len, forced }

/-- A close of a frame shorter than `MIN_LEN` counts a blip and emits nothing (rule R177). -/
theorem closeFrame_blip (s : State) {len : BitVec 16} (h : len.toNat < s.cfg.minLen.toNat) :
    closeFrame len false s =
      ({ gateReset s with diag := { s.diag with blipCnt := s.diag.blipCnt + 1 } }, none) := by
  simp [closeFrame, h, gateReset]

/-- A close of a frame of at least `MIN_LEN` samples emits it (rules R175, R176). -/
theorem closeFrame_emits (s : State) {len : BitVec 16} (h : s.cfg.minLen.toNat ≤ len.toNat) :
    closeFrame len false s = (gateReset s, some (closingFrame s len false)) := by
  simp [closeFrame, Nat.not_lt.2 h, gateReset, closingFrame]

/-- A forced close is counted (rule R175). -/
theorem closeFrame_forced (s : State) {len : BitVec 16} (h : s.cfg.minLen.toNat ≤ len.toNat) :
    closeFrame len true s =
      ({ gateReset s with diag := { s.diag with forcedCnt := s.diag.forcedCnt + 1 } },
        some (closingFrame s len true)) := by
  simp [closeFrame, Nat.not_lt.2 h, gateReset, closingFrame]

@[simp] theorem noted_cfg (idx : BitVec 32) (s : State) : (noted idx s).cfg = s.cfg := rfl

theorem gateReset_extendFrame (idx : BitVec 32) (x : Sample) (en : Nat) :
    gateReset (extendFrame x en (noted idx s)) = closedFrame idx x s := by
  unfold gateReset extendFrame closedFrame
  dsimp only
  split <;> rfl

theorem closingFrame_extendFrame (idx : BitVec 32) (x : Sample) (en : Nat) (len : BitVec 16) (forced : Bool) :
    closingFrame (extendFrame x en (noted idx s)) len forced = closingFrame s len forced := by
  obtain ⟨-, hkind, hstart, -⟩ := extendFrame_gate_keeps (noted idx s) x en
  rw [closingFrame, hkind, hstart]
  rfl

/-- In a good state the run of samples below reaches `HOLD` exactly by a fall (rules R33(c), R174). -/
theorem extendFrame_gBelow_eq_hold (h : Inv s) (hrun : s.rdr.rstate ≠ .done) (hg : s.gate.gstate = .inFrame)
    (x : Sample) : (extendFrame x (energy x.i x.q) s).gate.gBelow = s.cfg.hold ↔ Falls s x := by
  obtain ⟨-, -, -, hhold, -⟩ := validate_bounds _ _ (h.configured hrun)
  obtain ⟨-, -, hbelow, -⟩ := h.frameBounds hg
  rw [extendFrame_gate, Falls]
  by_cases hhigh : thrOff s ≤ energy x.i x.q
  · simp only [hhigh, if_true, Nat.not_lt.2 hhigh, false_and, iff_false]
    bv_omega
  · simp only [hhigh, if_false, Nat.not_le.1 hhigh, true_and]
    constructor <;> intro hb <;> bv_omega

/-- A fall leaves the frame's last high where it was. -/
theorem extendFrame_gLastHi {x : Sample} (hf : Falls s x) :
    (extendFrame x (energy x.i x.q) s).gate.gLastHi = s.gate.gLastHi := by
  rw [extendFrame_gate, if_neg (Nat.not_le.2 hf.1)]

section
variable (h : Inv s) (hrun : s.rdr.rstate ≠ .done) (hg : s.gate.gstate = .inFrame) (idx : BitVec 32) {x : Sample}
include h hrun hg

/-- `GATE_STEP` on a fall closes the frame with length `G_LASTHI` (rule R174). -/
theorem gateStep_falls (hf : Falls s x) :
    gateStep idx x (noted idx s) =
      closeFrame s.gate.gLastHi false (extendFrame x (energy x.i x.q) (noted idx s)) := by
  have hn : Inv (noted idx s) := h.congr rfl rfl rfl rfl
  have hhold := (extendFrame_gBelow_eq_hold hn hrun hg x).2 hf
  rw [gateStep_inFrame (noted idx s) idx x hg]
  dsimp only
  rw [extendFrame_cfg, if_pos hhold, extendFrame_gLastHi (s := noted idx s) hf]
  rfl

/-- A fall after less than `MIN_LEN` samples is a blip (rules R174, R177). -/
theorem gateStep_blip (hf : Falls s x) (hlen : s.gate.gLastHi.toNat < s.cfg.minLen.toNat) :
    gateStep idx x (noted idx s) = (blipped idx x s, none) := by
  rw [gateStep_falls h hrun hg idx hf, closeFrame_blip (extendFrame x _ (noted idx s)) hlen, gateReset_extendFrame]
  rfl

/-- A fall after at least `MIN_LEN` samples emits the frame (rules R174, R176). -/
theorem gateStep_fallen (hf : Falls s x) (hlen : s.cfg.minLen.toNat ≤ s.gate.gLastHi.toNat) :
    gateStep idx x (noted idx s) = (closedFrame idx x s, some (closingFrame s s.gate.gLastHi false)) := by
  rw [gateStep_falls h hrun hg idx hf, closeFrame_emits (extendFrame x _ (noted idx s)) hlen, gateReset_extendFrame,
    closingFrame_extendFrame]

/-- `GATE_STEP` on a sample that fills the frame up to `MAX_LEN` closes it by force (rules R174, R175). -/
theorem gateStep_full (hf : ¬ Falls s x) (hfull : s.gate.gLen.toNat + 1 = s.cfg.maxLen.toNat) :
    gateStep idx x (noted idx s) =
      ({ closedFrame idx x s with diag := { s.diag with forcedCnt := s.diag.forcedCnt + 1 } },
        some (closingFrame s s.cfg.maxLen true)) := by
  have hn : Inv (noted idx s) := h.congr rfl rfl rfl rfl
  have hhold : (extendFrame x _ (noted idx s)).gate.gBelow ≠ s.cfg.hold :=
    mt (extendFrame_gBelow_eq_hold hn hrun hg x).1 hf
  obtain ⟨-, hmin, -⟩ := validate_bounds _ _ (h.configured hrun)
  have hmax : (extendFrame x (energy x.i x.q) (noted idx s)).gate.gLen = s.cfg.maxLen := by
    obtain ⟨-, -, -, -, hlen⟩ := extendFrame_gate_keeps (noted idx s) x (energy x.i x.q)
    exact hlen.trans (show s.gate.gLen + 1 = s.cfg.maxLen by bv_omega)
  rw [gateStep_inFrame (noted idx s) idx x hg]
  dsimp only
  rw [extendFrame_cfg, noted_cfg, if_neg hhold, hmax, if_pos rfl,
    closeFrame_forced (extendFrame x _ (noted idx s)) hmin, gateReset_extendFrame, closingFrame_extendFrame]
  rfl

end

/-- A gap frame is decoded as `NoReply(reason 1)`, counted and dropped (rules R201, R250). -/
theorem afterGate_gap {f : Frame} (hk : f.kind = .r2tGap) (u : State) :
    afterGate (u, some f) = { u with
      dec := { last := 0x10, lastT := 0, lastRn := 0 }, diag := { u.diag with gapCnt := u.diag.gapCnt + 1 } } := by
  have hd : decode u f (expect u) = .noReply .gapFrame := by simp only [decode, decodeEnergies, hk]
  simp only [afterGate, hd, onFrame, hk]
  rfl

/-- After a sample without a frame a block that does not listen is as the Gate left it. -/
theorem afterGate_none {u : State} (hl : listening u = false) : afterGate (u, none) = u := by
  simp [afterGate, hl]

/-- After a sample without a frame a listening block advances the slot timer. -/
theorem afterGate_listening {u : State} (hl : listening u = true) : afterGate (u, none) = slotTick u := by
  simp [afterGate, hl]

/-- A sample that continues the last index, at a running block in a good state (rule R170). -/
theorem sampleStep_of_continues (h : Inv s) (hrun : s.rdr.rstate ≠ .done) {idx : BitVec 32}
    (hidx : s.haveLast = true → idx = s.lastIdx + 1) (i q : BitVec 16) :
    sampleStep idx i q s = .next (afterGate (gateStep idx ⟨i, q⟩ (noted idx s))) := by
  rw [sampleStep_of_inv h hrun, noteIndex_of_continues hidx]

/-- What the slot timer makes of a listening block with an idle Gate: it advances, and at `T_SLOT` the slot ends without a
reply (rules R251, R254, R255). -/
theorem slotTick_idle {u : State} (hl : listening u = true) (hg : u.gate.gstate = .idle) :
    ((ticked u).rdr.tWait.toNat < u.cfg.tSlot.toNat → slotTick u = ticked u) ∧
    (u.cfg.tSlot.toNat ≤ (ticked u).rdr.tWait.toNat → slotTick u =
      endSlot (if u.rdr.rstate = .ackSequence then .collision else .empty)
        { ticked u with diag := { u.diag with timeoutCnt := u.diag.timeoutCnt + 1 } }) := by
  rcases slotTick_cases u with ⟨hlate, -, he⟩ | ⟨hnot, he⟩
  · refine ⟨fun hearly => by omega, fun _ => he.trans ?_⟩
    obtain ⟨hr | hr, -⟩ := (listening_iff u).1 hl <;> simp [classify, Decoded.noReply, ticked, hr]
  · exact ⟨fun _ => he, fun hlate => absurd ⟨hlate, hg⟩ hnot⟩

/-- A reply frame is decoded from its samples with the reply length of rule R30, latched and handled (rules R170,
R250). -/
theorem afterGate_reply (u : State) (start : BitVec 32) (len : BitVec 16) (forced : Bool) :
    afterGate (u, some { kind := .tagReply, start, len, forced }) =
      (let energies := (List.range len.toNat).map fun k => energy (u.mem.readFb k).i (u.mem.readFb k).q
       let d := decodeEnergies u.cfg .tagReply energies (if u.rdr.rstate = .ackSequence then .id else .rn16)
       onFrame { kind := .tagReply, start, len, forced } d (latchLast d u)) := by
  simp only [afterGate, decode, frameSamples, List.map_map, expect]
  rfl

/-- Settles O38: the three ways a sample closes a frame (`gateStep_blip`, `gateStep_fallen`, `gateStep_full`), each with what
the Reader then does: a gap frame is counted (`afterGate_gap`), a reply frame decoded and handled (`afterGate_reply`), and a
blip while listening ticks the slot timer (`slotTick_idle`). -/
theorem frameCloses : Obligations.FrameCloses := by
  constructor
  · intro idx i q s h hrun hl hg hidx thr falls hclose blip
    have hk : s.gate.gKind = .r2tGap := by
      cases hk : s.gate.gKind with
      | r2tGap => rfl
      | tagReply => simp [h.replyListening hg hk] at hl
    have hstep := sampleStep_of_continues h hrun hidx i q
    have hfb (hmem : s.mem.wf = true) := Memory.readFb_writeFb s.mem hmem s.gate.gLen.toNat ⟨i, q⟩
    by_cases hf : Falls s ⟨i, q⟩
    · by_cases hlen : s.gate.gLastHi.toNat < s.cfg.minLen.toNat
      · rw [gateStep_blip h hrun hg idx hf hlen, afterGate_none (u := blipped idx _ s) hl] at hstep
        exact ⟨_, _, _, hstep, hfb, fun _ => rfl, fun _ => rfl, fun _ => ⟨rfl, rfl⟩, fun _ hb => absurd ⟨hf, hlen⟩ hb,
          fun hnf => absurd hf hnf⟩
      · rw [gateStep_fallen h hrun hg idx hf (Nat.not_lt.1 hlen), afterGate_gap hk] at hstep
        exact ⟨_, _, _, hstep, hfb, fun _ => rfl, fun _ => rfl, fun hb => absurd hb.2 hlen, fun _ _ => ⟨rfl, rfl⟩,
          fun hnf => absurd hf hnf⟩
    · rw [gateStep_full h hrun hg idx hf (hclose.resolve_left hf), afterGate_gap hk] at hstep
      exact ⟨_, _, _, hstep, hfb, fun _ => rfl, fun _ => rfl, fun hb => absurd hb.1 hf, fun hf' => absurd hf' hf,
        fun _ => ⟨rfl, rfl⟩⟩
  · intro idx i q s h hmem hl hg hidx thr falls hclose
    have hrun := running_of_listening hl
    have hk (len : BitVec 16) (forced : Bool) :
        closingFrame s len forced = { kind := .tagReply, start := s.gate.gStart, len, forced } := by
      cases hk : s.gate.gKind with
      | r2tGap => simp [h.gapNotListening hg hk] at hl
      | tagReply => rw [closingFrame, hk]
    have hstep := sampleStep_of_continues h hrun hidx i q
    refine ⟨s.mem.writeFb s.gate.gLen.toNat ⟨i, q⟩, Memory.readFb_writeFb s.mem hmem _ _, fun _ => rfl, fun _ => rfl,
      fun hf hlen => ?_, fun hf => ?_, ?_⟩
    · rw [gateStep_fallen h hrun hg idx (x := ⟨i, q⟩) hf hlen, hk, afterGate_reply] at hstep
      exact hstep
    · rw [gateStep_full h hrun hg idx (x := ⟨i, q⟩) hf (hclose.resolve_left hf), hk, afterGate_reply] at hstep
      exact hstep
    · intro hf hlen u
      rw [gateStep_blip h hrun hg idx (x := ⟨i, q⟩) hf hlen] at hstep
      replace hstep := hstep.trans (congrArg _ (afterGate_listening (u := blipped idx _ s) hl))
      obtain ⟨hearly, hlate⟩ := slotTick_idle (u := blipped idx ⟨i, q⟩ s) hl rfl
      exact ⟨fun ht => hstep.trans (congrArg _ (hearly ht)), fun ht => hstep.trans (congrArg _ (hlate ht))⟩

end Sys2Proof.Machine
end

section
/-! PROOFS. The Commands (rules R134 to R138): their words, and that each Command's instruction is the Reader's emission of
it. -/

namespace Sys2Proof.Machine

/-! ### The words -/

/-- The bits of a value depend on its residue alone. -/
theorem bitsOf_congr {n v w : Nat} (h : v % 2 ^ n = w % 2 ^ n) : bitsOf n v = bitsOf n w := by
  have self (u : Nat) : bitsOf n (u % 2 ^ n) = bitsOf n u := by
    have hu := bitsOf_msbFirst (bitsOf n u)
    rwa [bitsOf_length, msbFirst_bitsOf] at hu
  rw [← self v, h, self w]

/-- The value of two words one behind the other. -/
theorem toNat_append_eq_add {m n : Nat} (x : BitVec m) (y : BitVec n) : (x ++ y).toNat = x.toNat * 2 ^ n + y.toNat := by
  rw [BitVec.toNat_append, ← Nat.shiftLeft_add_eq_or_of_lt y.isLt, Nat.shiftLeft_eq]

/-- The bits of a `QUERYREP` are its word (rule R135). -/
theorem ofNat_queryRepBits (session : BitVec 2) :
    BitVec.ofNat 128 (msbFirst (queryRepBits session)) = queryRepWord session := by
  apply BitVec.eq_of_toNat_eq
  rw [queryRepBits, queryRepWord, BitVec.toNat_setWidth, toNat_append_eq_add, msbFirst_append, msbFirst_bitsOf,
    bitsOf_length, Nat.mod_eq_of_lt session.isLt]
  rfl

/-- The bits of an `ACK` are its word (rule R137). -/
theorem ofNat_ackBits (rn : BitVec 16) : BitVec.ofNat 128 (msbFirst (ackBits rn)) = ackWord rn := by
  apply BitVec.eq_of_toNat_eq
  rw [ackBits, ackWord, BitVec.toNat_setWidth, toNat_append_eq_add, msbFirst_append, msbFirst_bitsOf, bitsOf_length,
    Nat.mod_eq_of_lt rn.isLt]
  rfl

section
variable (target action : BitVec 3) (memBank : BitVec 2) (pointer : BitVec 7) (length : BitVec 6) (mask : BitVec 32)
  (trunc : BitVec 1) (crc : BitVec 16)

/-- The value of the bits of a `SELECT` before its CRC, as `selectWord` writes it (rule R138). -/
def selectBodyValue : Nat :=
  ((0b1010#4 ++ target ++ action ++ memBank ++ 0#1 ++ pointer ++ 0b00#2 ++ length).toNat * 2 ^ length.toNat +
    mask.toNat % 2 ^ length.toNat) * 2 + trunc.toNat

theorem selectBody_length :
    (selectBody target action memBank pointer length mask trunc).length = 29 + length.toNat := by
  simp [selectBody]; omega

theorem msbFirst_selectBody :
    msbFirst (selectBody target action memBank pointer length mask trunc) =
      selectBodyValue target action memBank pointer length mask trunc := by
  have hpointer : pointer.toNat % 2 ^ 8 = pointer.toNat := Nat.mod_eq_of_lt (by omega)
  have hlength : length.toNat % 2 ^ 8 = length.toNat := Nat.mod_eq_of_lt (by omega)
  simp only [selectBody, selectBodyValue, msbFirst_append, msbFirst_bitsOf, bitsOf_length, toNat_append_eq_add,
    hpointer, hlength, show msbFirst [true, false, true, false] = 10 from rfl, Nat.mod_eq_of_lt target.isLt,
    Nat.mod_eq_of_lt action.isLt, Nat.mod_eq_of_lt memBank.isLt, Nat.mod_eq_of_lt trunc.isLt, BitVec.toNat_ofNat]
  ring

/-- The bits of a `SELECT` are its word (rule R138). -/
theorem ofNat_selectBits :
    BitVec.ofNat 128 (msbFirst (selectBits target action memBank pointer length mask trunc crc)) =
      selectWord target action memBank pointer length mask trunc crc := by
  rw [selectBits, msbFirst_append, msbFirst_selectBody, bitsOf_length, msbFirst_bitsOf, Nat.mod_eq_of_lt crc.isLt]
  rfl

/-- The bits before the CRC are the upper bits of the word: at most 92, so none is cut off (rule R138). -/
theorem selectBody_eq_bitsOf :
    selectBody target action memBank pointer length mask trunc =
      bitsOf (29 + length.toNat) ((selectWord target action memBank pointer length mask trunc 0).toNat / 2 ^ 16) := by
  have hlt : selectBodyValue target action memBank pointer length mask trunc < 2 ^ 92 := by
    rw [← msbFirst_selectBody]
    refine (msbFirst_lt _).trans_le (Nat.pow_le_pow_right (by omega) ?_)
    rw [selectBody_length]
    omega
  have hword : (selectWord target action memBank pointer length mask trunc 0).toNat / 2 ^ 16 =
      selectBodyValue target action memBank pointer length mask trunc := by
    rw [← ofNat_selectBits, selectBits, msbFirst_append, msbFirst_selectBody, bitsOf_length, msbFirst_bitsOf,
      BitVec.toNat_ofNat]
    omega
  rw [hword, ← msbFirst_selectBody, ← selectBody_length target action memBank pointer length mask trunc,
    bitsOf_msbFirst]

/-- Of the mask only the bits sent count (rule R50). -/
theorem selectBody_congr_mask {mask mask' : BitVec 32}
    (h : mask.toNat % 2 ^ length.toNat = mask'.toNat % 2 ^ length.toNat) :
    selectBody target action memBank pointer length mask trunc =
      selectBody target action memBank pointer length mask' trunc := by
  rw [selectBody, bitsOf_congr h, selectBody]

end

/-! ### Where the Reader emits them -/

theorem opensRound_iff (s : State) : opensRound s = true ↔
    s.rdr.rstate = .roundStart ∧ s.rdr.txBusy = false ∧ s.rdr.stopReq = false := by
  simp [opensRound, and_assoc]

theorem opensNextSlot_iff (s : State) : opensNextSlot s = true ↔
    (s.rdr.rstate = .slotEmpty ∨ s.rdr.rstate = .slotSuccess ∨ s.rdr.rstate = .slotCollision) ∧
      s.rdr.txBusy = false ∧ s.rdr.stopReq = false ∧ s.rdr.slotsRem ≠ 0 := by
  simp [opensNextSlot, and_assoc, or_assoc]

theorem acknowledges_iff (rn : BitVec 16) (s : State) : acknowledges rn s = true ↔
    s.rdr.rstate = .slotSuccess ∧ s.rdr.txBusy = false ∧ s.mem.readHb rn = false := by
  simp [acknowledges, and_assoc]

/-- The Select that the configuration asks for, with its CRC-16 taken over the upper bits of its word (rules R138, R242). -/
theorem asksSelect_iff (c : Cfg) (target action : BitVec 3) (memBank : BitVec 2) (pointer : BitVec 7)
    (length : BitVec 6) (mask : BitVec 32) (trunc : BitVec 1) (crc : BitVec 16) :
    c.asksSelect target action memBank pointer length mask trunc crc = true ↔
      c.selCfg.extractLsb' 0 1 = 1 ∧ target = c.selCfg.extractLsb' 1 3 ∧ action = c.selCfg.extractLsb' 4 3 ∧
      memBank = c.selCfg.extractLsb' 7 2 ∧ pointer = c.selCfg.extractLsb' 9 7 ∧ length = c.selCfg.extractLsb' 16 6 ∧
      mask.toNat % 2 ^ length.toNat = c.selMask.toNat % 2 ^ length.toNat ∧ trunc = c.selCfg.extractLsb' 22 1 ∧
      crc = crc16 (bitsOf (29 + length.toNat)
        ((selectWord target action memBank pointer length mask trunc 0).toNat / 2 ^ 16)) := by
  rw [← selectBody_eq_bitsOf]
  simp only [Cfg.asksSelect, Bool.and_eq_true, beq_iff_eq, and_assoc]
  constructor
  · rintro ⟨hen, rfl, rfl, rfl, rfl, rfl, hmask, rfl, rfl⟩
    exact ⟨hen, rfl, rfl, rfl, rfl, rfl, hmask, rfl, congrArg crc16 (selectBody_congr_mask _ _ _ _ _ _ hmask.symm)⟩
  · rintro ⟨hen, rfl, rfl, rfl, rfl, rfl, hmask, rfl, rfl⟩
    exact ⟨hen, rfl, rfl, rfl, rfl, rfl, hmask, rfl, congrArg crc16 (selectBody_congr_mask _ _ _ _ _ _ hmask)⟩

/-- Setting `RSTATE` to what it is changes nothing. -/
theorem setRState_of_eq {s : State} {r : RState} (h : s.rdr.rstate = r) : setRState r s = s := by
  rw [setRState, ← h]

/-- Settles O8: the two cases of a `QUERYREP` (`execQueryRep_cases`), with the word of its bits. -/
theorem queryRepEmission : Obligations.QueryRepEmission := by
  intro session s opens asked
  rcases execQueryRep_cases s session with ⟨hopens, hasked, he⟩ | ⟨hnot, he⟩
  · refine ⟨fun _ _ => he.trans ?_, fun hn => absurd ⟨(opensNextSlot_iff s).1 hopens, hasked⟩ hn⟩
    rw [← ofNat_queryRepBits]
    rfl
  · exact ⟨fun ho ha => absurd ⟨(opensNextSlot_iff s).2 ho, ha⟩ hnot, fun _ => he⟩

/-- Settles O9: the two cases of an `ACK` (`execAck_cases`), with the word of its bits and the memory law of `HB`. -/
theorem ackEmission : Obligations.AckEmission := by
  intro rn s opens
  rcases execAck_cases s rn with ⟨hopens, he⟩ | ⟨hnot, he⟩
  · refine ⟨fun hmem _ => ⟨s.mem.setHb rn, he.trans ?_, Memory.readHb_setHb _ hmem rn, fun _ => rfl, fun _ => rfl⟩,
      fun hn => absurd ((acknowledges_iff rn s).1 hopens) hn⟩
    rw [← ofNat_ackBits]
    rfl
  · exact ⟨fun _ ho => by simp [(acknowledges_iff rn s).2 ho] at hnot, fun _ => he⟩

/-- Settles O10: the two cases of a `SELECT` (`execSelect_cases`), with the word of its bits, and `asksSelect_iff` for the
fields that the configuration asks for. -/
theorem selectEmission : Obligations.SelectEmission := by
  intro target action memBank pointer length mask trunc crc s opens asked
  rcases execSelect_cases s target action memBank pointer length mask trunc crc with ⟨hopens, hasked, he⟩ | ⟨hnot, he⟩
  · refine ⟨fun ho _ => he.trans ?_, fun hn => absurd ⟨(opensRound_iff s).1 hopens, (asksSelect_iff ..).1 hasked⟩ hn⟩
    have hlen : (selectBits target action memBank pointer length mask trunc crc).length = 45 + length.toNat := by
      rw [selectBits, List.length_append, selectBody_length, bitsOf_length]
      omega
    rw [← ofNat_selectBits, ← hlen, emitSelect, setRState_of_eq ho.1]
    rfl
  · exact ⟨fun ho ha => absurd ⟨(opensRound_iff s).2 ho, (asksSelect_iff ..).2 ha⟩ hnot, fun _ => he⟩

end Sys2Proof.Machine
end

section
/-! PROOFS. The host's registers: the interrupt line, the register map as it reads, the configuration as it is written, the
last decode and the state after reset (`10_state.md`). -/

namespace Sys2Proof.Machine

/-! ### Interrupts -/

/-- Settles O24: `irq` is not 0 exactly when some bit of the two registers' conjunction is set. -/
theorem irqEnableAndLine : Obligations.IrqEnableAndLine := by
  refine ⟨fun _ _ => rfl, fun _ => rfl, fun s => ?_, rfl⟩
  have hbit (k : Nat) : (s.irqPend &&& s.irqEn).getLsbD k = (s.irqPend.getLsbD k && s.irqEn.getLsbD k) :=
    BitVec.getLsbD_and
  rw [irq, decide_eq_true_iff]
  constructor
  · intro hne
    by_contra hnone
    refine hne (BitVec.eq_of_getLsbD_eq fun k hk => ?_)
    have hclear : ¬ (s.irqPend.getLsbD k = true ∧ s.irqEn.getLsbD k = true) := fun hset => hnone ⟨k, hk, hset⟩
    simpa [hbit] using hclear
  · rintro ⟨k, -, hpend, hen⟩ hzero
    have hk := hbit k
    rw [hzero, hpend, hen] at hk
    simp at hk

/-! ### `STATUS` -/

section
variable (s : State)
/-! Each field of `STATUS` stands where rule R43 puts it. -/

theorem status_rstate : (status s).extractLsb' 0 3 = s.rdr.rstate.code := BitVec.extractLsb'_append_eq_right

theorem status_gstate : (status s).extractLsb' 4 2 = s.gate.gstate.code := by
  simp (disch := decide) only [status, BitVec.extractLsb'_append_eq_of_le, Nat.reduceSub,
    BitVec.extractLsb'_append_eq_right]

theorem status_reserved : (status s).extractLsb' 14 18 = 0 := by
  simp (disch := decide) only [status, BitVec.extractLsb'_append_eq_of_le, Nat.reduceSub]
  rfl

theorem status_flags :
    (status s).getLsbD 3 = false ∧ (status s).getLsbD 6 = s.rdr.txBusy ∧ (status s).getLsbD 7 = listening s ∧
      (status s).getLsbD 8 = s.rdr.stopReq ∧ (status s).getLsbD 9 = s.cfgErr ∧ (status s).getLsbD 10 = running s ∧
      (status s).getLsbD 11 = s.haveLast ∧ (status s).getLsbD 12 = (frameKindBit s).getLsbD 0 ∧
      (status s).getLsbD 13 = idFull s := by
  simp only [status, BitVec.getLsbD_append, Nat.reduceLT, if_true, if_false, Nat.reduceSub]
  simp

/-- `STATUS.FRAME_KIND` shows an open reply frame (rule R43). -/
theorem frameKindBit_iff :
    (frameKindBit s).getLsbD 0 = true ↔ s.gate.gstate = .inFrame ∧ s.gate.gKind = .tagReply := by
  unfold frameKindBit
  split
  · cases hk : s.gate.gKind <;> simp [FrameKind.code, *]
  · simp [*]

end

/-! ### The register map -/

/-- The tally and status block ends at 0x168 (rule R56). -/
theorem readTally_above (s : State) {a : Nat} (h : 0x16C ≤ a) : readTally s a = none := by
  unfold readTally
  split <;> simp_all

/-- Settles O29: each register's read by evaluation of the map, each field of `STATUS` by its lemma. -/
theorem readOnlyRegisters : Obligations.ReadOnlyRegisters := by
  intro s
  have hstatus : readRegister s 0x00C = status s := rfl
  obtain ⟨hzero, hbusy, hlistening, hstop, hcfgErr, hrunning, hlast, hkind, hfull⟩ := status_flags s
  rw [hstatus]
  refine ⟨rfl, rfl, rfl, rfl, rfl, rfl, ?_, hzero, ?_, hbusy, ?_, hstop, hcfgErr, ?_, hlast, ?_, ?_, status_reserved s, rfl, rfl, rfl, rfl, rfl, rfl, rfl, rfl, rfl, rfl,
    rfl, rfl, rfl, rfl, rfl, rfl, rfl, rfl, rfl, rfl, rfl, rfl, rfl, rfl, rfl, rfl, rfl, rfl, fun a hlo hhi => ?_⟩
  · exact (status_rstate s).trans (by cases s.rdr.rstate <;> rfl)
  · exact (status_gstate s).trans (by cases s.gate.gstate <;> rfl)
  · rw [hlistening, listening_iff]
  · rw [hrunning, running, decide_eq_true_iff]
  · rw [hkind, frameKindBit_iff]
  · rw [hfull, idFull, beq_iff_eq]
  · rw [readRegister, if_neg (by omega), if_neg (by omega), if_pos (by omega), readTally_above s hlo]
    rfl

/-- The configuration range reads the configuration alone (rule R34). -/
theorem readRegister_config (s : State) {a : BitVec 12} (hlo : 0x020 ≤ a.toNat) (hhi : a.toNat < 0x080) :
    readRegister s a = (readConfig s.cfg a.toNat).getD 0 := by
  rw [readRegister, if_neg (by omega), if_pos hhi]

/-- Outside the configuration range no register shows the configuration (rule R34). -/
theorem readRegister_withCfg (s : State) (c : Cfg) {a : BitVec 12} (h : ¬ (0x020 ≤ a.toNat ∧ a.toNat < 0x080)) :
    readRegister { s with cfg := c } a = readRegister s a := by
  unfold readRegister
  dsimp only
  by_cases hlo : a.toNat < 0x020
  · rw [if_pos hlo, if_pos hlo]
    rfl
  · have hhi : ¬ a.toNat < 0x080 := by omega
    rw [if_neg hlo, if_neg hhi, if_neg hlo, if_neg hhi]
    rfl

/-! ### Configuration writes -/

/-- An access is misaligned when its address is no multiple of 4 (rule R82). -/
theorem misaligned_iff (addr : BitVec 12) : misaligned addr = true ↔ addr.toNat % 4 ≠ 0 := by
  rw [misaligned, decide_eq_true_iff, ne_eq, ← BitVec.toNat_inj]
  simp

theorem misaligned_eq_false_iff (addr : BitVec 12) : misaligned addr = false ↔ addr.toNat % 4 = 0 := by
  rw [← Bool.not_eq_true, misaligned_iff, not_not]

/-- The addresses of the first configuration row, 0x020 to 0x03F. -/
theorem toNat_configLo (off : BitVec 5) : (0b0000001#7 ++ off).toNat = 0x020 + off.toNat := by
  rw [toNat_append_eq_add]
  rfl

/-- The addresses of the second configuration row, 0x040 to 0x07F. -/
theorem toNat_configHi (off : BitVec 6) : (0b000001#6 ++ off).toNat = 0x040 + off.toNat := by
  rw [toNat_append_eq_add]
  rfl

/-- The configuration registers stand at multiples of 4 from 0x020 to 0x07C (rule R34). -/
theorem configMask_range {n : Nat} (h : configMask n ≠ 0) : n % 4 = 0 ∧ 0x020 ≤ n ∧ n < 0x080 := by
  unfold configMask at h
  split at h <;> simp at h ⊢

/-- A store finds a register exactly where the table of rule R34 has defined bits. -/
theorem storeConfig_eq_none_iff (c : Cfg) (addr : Nat) (data : BitVec 32) :
    storeConfig c addr data = none ↔ configMask addr = 0 := by
  unfold storeConfig
  split <;> simp [configMask]

/-- A field of the low `w` bits shows those bits of the written value. -/
theorem setWidth_extractLsb'_eq_and (data : BitVec 32) (w : Nat) (hw : w ≤ 32) :
    (data.extractLsb' 0 w).setWidth 32 = data &&& BitVec.ofNat 32 (2 ^ w - 1) := by
  have hpow : 2 ^ w ≤ 2 ^ 32 := Nat.pow_le_pow_right (by omega) hw
  have hmod : data.toNat % 2 ^ w < 2 ^ 32 := by omega
  apply BitVec.eq_of_toNat_eq
  rw [BitVec.toNat_setWidth, BitVec.extractLsb'_toNat, BitVec.toNat_and, BitVec.toNat_ofNat, Nat.shiftRight_zero,
    Nat.mod_eq_of_lt (show 2 ^ w - 1 < 2 ^ 32 by omega), Nat.and_two_pow_sub_one_eq_mod, Nat.mod_eq_of_lt hmod]

/-- `QRY_CFG` stores and shows its writable bits (rule R48). -/
theorem setWidth_qryCfg (data : BitVec 32) :
    ((data.extractLsb' 0 9 &&& qryCfgMask) &&& qryCfgMask).setWidth 32 = data &&& 0x1F1 := by
  rw [BitVec.and_assoc, BitVec.and_self, BitVec.setWidth_and, setWidth_extractLsb'_eq_and data 9 (by omega),
    BitVec.and_assoc]
  rfl

/-- A stored register reads the written value under the mask of its fields (rules R44 to R52, R57). -/
theorem readConfig_storeConfig {c c' : Cfg} {addr : Nat} {data : BitVec 32}
    (h : storeConfig c addr data = some c') : readConfig c' addr = some (data &&& configMask addr) := by
  unfold storeConfig at h
  split at h <;> cases h
  -- GATE_TOFS, NF_INIT, T_SLOT, SEL_MASK and TX_TIMING are 32 bits wide, QRY_CFG has bits that are not writable.
  case h_3 | h_5 | h_15 | h_18 | h_19 => exact congrArg some BitVec.and_allOnes.symm
  case h_16 => exact congrArg some (setWidth_qryCfg data)
  all_goals exact congrArg some (setWidth_extractLsb'_eq_and data _ (by omega))

/-- A store changes what no other configuration register reads. -/
theorem readConfig_storeConfig_ne {c c' : Cfg} {addr n : Nat} {data : BitVec 32}
    (h : storeConfig c addr data = some c') (hn : n ≠ addr) : readConfig c' n = readConfig c n := by
  unfold storeConfig at h
  split at h <;> cases h
  -- Row `addr` of the map is excluded by `hn`; every other row reads a field that this store leaves.
  all_goals
    unfold readConfig
    split <;> simp_all

/-- A write of a configuration register while stopped stores its defined bits and nothing else (rule R44). -/
theorem writeConfig_reads {s : State} (hd : s.rdr.rstate = .done) {addr : BitVec 12} (data : BitVec 32)
    (hm : configMask addr.toNat ≠ 0) :
    ∃ c : Cfg, writeConfig addr data s = { s with cfg := c } ∧
      ∀ a : BitVec 12, readRegister { s with cfg := c } a =
        if a.toNat = addr.toNat then data &&& configMask addr.toNat else readRegister s a := by
  obtain ⟨halign, hlo, hhi⟩ := configMask_range hm
  rcases writeConfig_cases s addr data with ⟨hmis, -⟩ | ⟨-, hnone, -⟩ | ⟨-, -, c, hc, he⟩ | ⟨-, hrun, -⟩
  · exact absurd halign ((misaligned_iff addr).1 hmis)
  · exact absurd ((storeConfig_eq_none_iff _ _ _).1 hnone) hm
  · refine ⟨c, he, fun a => ?_⟩
    by_cases hrange : 0x020 ≤ a.toNat ∧ a.toNat < 0x080
    · rw [readRegister_config _ hrange.1 hrange.2, readRegister_config s hrange.1 hrange.2]
      split
      · next ha => rw [ha, readConfig_storeConfig hc]; rfl
      · next ha => rw [readConfig_storeConfig_ne hc ha]
    · rw [readRegister_withCfg s c hrange, if_neg fun ha => hrange (by omega)]
  · exact absurd hd hrun

/-- Settles O25: the reads by evaluation of the map, the writes by `writeConfig_reads` at the addresses of the two rows. -/
theorem configWriteReadsBack : Obligations.ConfigWriteReadsBack := by
  refine ⟨fun s => ⟨rfl, rfl, rfl, rfl, rfl, rfl, rfl, rfl, rfl, rfl, rfl, rfl, rfl, rfl, rfl, rfl, rfl, rfl, rfl, rfl⟩,
    fun off data s hd hm => ?_, fun off data s hd hm => ?_⟩
  · rw [← toNat_configLo] at hm ⊢
    obtain ⟨c, he, hread⟩ := writeConfig_reads hd data hm
    exact ⟨c, congrArg Host.Outcome.next he, hread⟩
  · rw [← toNat_configHi] at hm ⊢
    obtain ⟨c, he, hread⟩ := writeConfig_reads hd data hm
    exact ⟨c, congrArg Host.Outcome.next he, hread⟩

/-- A misaligned write in the configuration range raises `BUS_ERR` alone (rule R82). -/
theorem writeConfig_misaligned (s : State) {addr : BitVec 12} (data : BitVec 32) (h : addr.toNat % 4 ≠ 0) :
    writeConfig addr data s = raise .busErr s := by
  rw [writeConfig, if_pos ((misaligned_iff addr).2 h)]

/-- A write where the configuration range holds no register does nothing (rule R81). -/
theorem writeConfig_unmapped (s : State) {addr : BitVec 12} (data : BitVec 32) (h : addr.toNat % 4 = 0)
    (hm : configMask addr.toNat = 0) : writeConfig addr data s = s := by
  rw [writeConfig, if_neg (by simp [(misaligned_eq_false_iff addr).2 h]), (storeConfig_eq_none_iff _ _ _).2 hm]

/-- A running block raises `WR_IGN` at a write of a configuration register, and nothing else happens (rule R44). -/
theorem writeConfig_running {s : State} (hrun : s.rdr.rstate ≠ .done) {addr : BitVec 12} (data : BitVec 32)
    (hm : configMask addr.toNat ≠ 0) : writeConfig addr data s = raise .wrIgn s := by
  obtain ⟨halign, -⟩ := configMask_range hm
  rcases writeConfig_cases s addr data with ⟨hmis, -⟩ | ⟨-, hnone, -⟩ | ⟨-, hd, -⟩ | ⟨-, -, -, he⟩
  · exact absurd halign ((misaligned_iff addr).1 hmis)
  · exact absurd ((storeConfig_eq_none_iff _ _ _).1 hnone) hm
  · exact absurd hd hrun
  · exact he

/-- Every aligned offset of the first configuration row is a register (rule R45). -/
theorem configMask_lo (off : BitVec 5) (h : off.toNat % 4 = 0) : configMask (0x020 + off.toNat) ≠ 0 := by
  revert off
  decide

/-- No register stands at 0x050 to 0x05C (rule R34). -/
theorem configMask_gap {n : Nat} (hlo : 0x050 ≤ n) (hhi : n ≤ 0x05C) : configMask n = 0 := by
  unfold configMask
  split <;> simp_all

/-- A bus write at an aligned address that no host-write row takes does nothing (rules R81, R290). -/
theorem busWrite_unmapped (s : State) {addr : BitVec 12} (data : BitVec 32) (h : addr.toNat % 4 = 0)
    (hrow : hostWriteRow addr = false) : busWrite addr data s = s := by
  simp only [hostWriteRow, Bool.or_eq_false_iff, beq_eq_false_iff_ne, Bool.and_eq_false_iff,
    decide_eq_false_iff_not] at hrow
  obtain ⟨⟨⟨hctrl, hpend⟩, hen⟩, hcfg⟩ := hrow
  rcases busWrite_cases s addr data with ⟨hmis, -⟩ | ⟨-, ha, -⟩ | ⟨-, ha, -⟩ | ⟨-, ha, -⟩ | ⟨-, hlo, hhi, -⟩ |
    ⟨-, -, -, -, -, he⟩
  · exact absurd h ((misaligned_iff addr).1 hmis)
  · exact absurd ha hctrl
  · exact absurd ha hpend
  · exact absurd ha hen
  · omega
  · exact he

/-- Settles O26: each write that stores nothing, by its lemma. -/
theorem ignoredWrites : Obligations.IgnoredWrites := by
  refine ⟨fun off data s => ⟨fun hmis => ?_, fun halign hrun => ?_⟩,
    fun off data s => ⟨fun hmis => ?_, fun halign hlo hhi => ?_, fun halign hm hrun => ?_⟩,
    fun addr data s hwf => ⟨fun hmis => ?_, fun halign => ?_⟩⟩
  · exact congrArg Host.Outcome.next (writeConfig_misaligned s data (by rw [toNat_configLo]; omega))
  · exact congrArg Host.Outcome.next (writeConfig_running hrun data (toNat_configLo off ▸ configMask_lo off halign))
  · exact congrArg Host.Outcome.next (writeConfig_misaligned s data (by rw [toNat_configHi]; omega))
  · have hm : configMask (0x040 + off.toNat) = 0 := configMask_gap (by omega) (by omega)
    exact congrArg Host.Outcome.next
      (writeConfig_unmapped s data (by rw [toNat_configHi]; omega) (toNat_configHi off ▸ hm))
  · exact congrArg Host.Outcome.next (writeConfig_running hrun data (toNat_configHi off ▸ hm))
  · exact congrArg Host.Outcome.next (if_pos ((misaligned_iff addr).2 hmis))
  · exact congrArg Host.Outcome.next (busWrite_unmapped s data halign (by simpa [Instr.wellFormed] using hwf))

/-! ### The last decode -/

/-- Settles O47: the fields of `DEC_LAST` stand where rule R31 puts them, the other two registers by cases on the reason and
the kind. -/
theorem latchLast_registers : Obligations.LatchLast := by
  intro r s
  refine ⟨_, rfl, ?_, ?_, ?_, ?_, ?_, ?_, ?_⟩
  · exact BitVec.extractLsb'_append_eq_right.trans (by cases r.kind <;> rfl)
  · simp only [Decoded.latch, BitVec.getLsbD_append, Nat.reduceLT, if_true, if_false, Nat.reduceSub]
    simp
  · simp only [Decoded.latch, BitVec.getLsbD_append, Nat.reduceLT, if_true, if_false, Nat.reduceSub]
    rfl
  · have hreason : r.latch.extractLsb' 4 3 = r.reason.code := by
      simp (disch := decide) only [Decoded.latch, BitVec.extractLsb'_append_eq_of_le, Nat.reduceSub,
        BitVec.extractLsb'_append_eq_right]
    exact hreason.trans (by cases r.reason <;> rfl)
  · simp (disch := decide) only [Decoded.latch, BitVec.extractLsb'_append_eq_of_le, Nat.reduceSub]
    rfl
  · rw [Decoded.latchT]
    cases r.reason <;> rfl
  · rw [Decoded.latchRn]
    cases r.kind <;> rfl

/-! ### Reset -/

/-- The reset configuration passes validation where the frame buffer holds at least 8192 samples (rule R362). -/
theorem validate_reset {p : Params} (h : 8192 ≤ p.fbDepth) : validate p Cfg.reset = 0 := by
  have hdepth : ¬ p.fbDepth < Cfg.reset.maxLen.toNat := Nat.not_lt.2 h
  simp only [validate, validationChecks, firstFailing, hdepth]
  rfl

/-- The first round of the reset configuration opens with a Query (rules R243, R295). -/
theorem startInit_reset (s : State) : startInit (reset s) = startQuery (newRound (startClear (reset s))) := rfl

/-- A START right after `RESET` begins a run where the frame buffer holds at least 8192 samples (rules R293, R362). -/
theorem exec_ctrlStart_reset {s : State} (h : 8192 ≤ s.par.fbDepth) (rsv : BitVec 30) :
    exec (.ctrlStart rsv) (reset s) = .next (startQuery (newRound (startClear (reset s)))) := by
  rcases start_cases (reset s) with ⟨hrun, -⟩ | ⟨-, hv, -⟩ | ⟨-, -, he⟩
  · exact absurd rfl hrun
  · exact absurd (validate_reset h) hv
  · exact congrArg Host.Outcome.next (he.trans (startInit_reset s))

/-- The Query of the reset configuration (the example of rule R134). -/
theorem queryBits_reset :
    BitVec.ofNat 128 (msbFirst (queryBits Cfg.reset.dr Cfg.reset.qSel Cfg.reset.session Cfg.reset.target Cfg.reset.rdrQ
      Cfg.reset.queryCrc)) = 0x200042 := by decide +kernel

/-- Settles O32: the reset state's elements by evaluation; START then begins a run (`exec_ctrlStart_reset`) whose Command and
`STATUS` evaluate to the example of rule R295. -/
theorem resetState : Obligations.ResetState := by
  intro s
  refine ⟨reset s, rfl, rfl, rfl, ?_, rfl, rfl, rfl, rfl, rfl, rfl, rfl, rfl, rfl, rfl, rfl, fun _ => rfl, rfl, ?_, rfl,
    fun hdepth => ⟨validate_reset hdepth, _, exec_ctrlStart_reset hdepth 0, ?_, ?_, ?_, ?_⟩⟩
  · simp [irq, reset, State.resetOf]
  · simp [exec, execTxDone, txDone, raise, reset, State.resetOf, Cause.mask, Cause.code]
  · rw [← queryBits_reset]
    rfl
  · rfl
  · rfl
  · intro hcap
    have hroom : idFull (startQuery (newRound (startClear (reset s)))) = false :=
      beq_eq_false_iff_ne.2 hcap.symm
    change status _ = _
    simp [status, hroom, frameKindBit, running, listening, GState.code, RState.code]

end Sys2Proof.Machine
end

section
/-! PROOFS. The `ID_TABLE` window and the unmapped offsets of the register map (rules R81, R85), over the bus accesses that the
decoder names. -/

namespace Sys2Proof.Machine

/-! ### The `ID_TABLE` window -/

/-- The offsets from 0x400 to 0x7FF read the `ID_TABLE` window (rule R34). -/
theorem readRegister_idTable (s : State) {off : Nat} (h : off < 0x400) :
    readRegister s (BitVec.ofNat 12 (0x400 + off)) = idTableWord s off := by
  have ha : (BitVec.ofNat 12 (0x400 + off)).toNat = 0x400 + off := by
    rw [BitVec.toNat_ofNat, Nat.mod_eq_of_lt (by omega)]
  rw [readRegister, ha, if_neg (by omega), if_neg (by omega), if_neg (by omega), if_pos (by omega),
    Nat.add_sub_cancel_left]

/-- The four words of a valid entry: the EPC, most significant word first, and the PC (rule R85). -/
theorem idTableWord_valid {s : State} {k : Nat} (h : k < s.tally.tDistinct.toNat) :
    idTableWord s (16 * k) = (s.mem.readId k).epc.extractLsb' 64 32 ∧
    idTableWord s (16 * k + 4) = (s.mem.readId k).epc.extractLsb' 32 32 ∧
    idTableWord s (16 * k + 8) = (s.mem.readId k).epc.extractLsb' 0 32 ∧
    idTableWord s (16 * k + 12) = (s.mem.readId k).pc.setWidth 32 := by
  have hvalid : ¬ s.tally.tDistinct.toNat ≤ k := by omega
  have entry : ∀ j < 16, (16 * k + j) / 16 = k ∧ (16 * k + j) % 16 = j := by omega
  refine ⟨?_, ?_, ?_, ?_⟩
  · simp [idTableWord, hvalid]
  · simp [idTableWord, hvalid, entry]
  · simp [idTableWord, hvalid, entry]
  · simp [idTableWord, hvalid, entry]

/-- Every word of an invalid entry is 0 (rule R85). -/
theorem idTableWord_invalid {s : State} {off : Nat} (h : s.tally.tDistinct.toNat ≤ off / 16) :
    idTableWord s off = 0 := if_pos h

/-- Settles O30: the window's offsets read its words (`readRegister_idTable`), a valid entry's by `idTableWord_valid` and an
invalid one's by `idTableWord_invalid`. -/
theorem idTableWindow : Obligations.IdTableWindow := by
  intro s k hk
  refine ⟨fun hvalid => ?_, fun hinvalid j hj => ?_⟩
  · simp only [Nat.add_assoc]
    rw [readRegister_idTable s (by omega), readRegister_idTable s (by omega), readRegister_idTable s (by omega),
      readRegister_idTable s (by omega)]
    exact idTableWord_valid hvalid
  · rw [Nat.add_assoc, readRegister_idTable s (by omega)]
    exact idTableWord_invalid (by omega)

/-! ### Unmapped offsets -/

/-- What it means that the table of rule R34 names an offset. -/
theorem mappedOffset_eq_false_iff (a : Nat) : mappedOffset a = false ↔
    0x018 < a ∧ configMask a = 0 ∧ ¬ (0x100 ≤ a ∧ a ≤ 0x168) ∧ ¬ (0x400 ≤ a ∧ a ≤ 0x7FF) := by
  simp [mappedOffset, and_assoc]

/-- The identification, control and interrupt registers end at 0x018 (rule R34). -/
theorem readControl_above (s : State) {a : Nat} (h : 0x018 < a) : readControl s a = none := by
  unfold readControl
  split <;> simp_all

/-- A read finds a configuration register only where the table of rule R34 has defined bits. -/
theorem readConfig_of_configMask_eq_zero (c : Cfg) {a : Nat} (h : configMask a = 0) : readConfig c a = none := by
  unfold readConfig
  split <;> simp_all [configMask]

/-- The tally and status block begins at 0x100 (rule R56). -/
theorem readTally_below (s : State) {a : Nat} (h : a < 0x100) : readTally s a = none := by
  unfold readTally
  split <;> simp_all

/-- An aligned offset that the register map does not name reads 0 (rule R81). -/
theorem readRegister_unmapped (s : State) {addr : BitVec 12} (halign : addr.toNat % 4 = 0)
    (hunmapped : mappedOffset addr.toNat = false) : readRegister s addr = 0 := by
  obtain ⟨hcontrol, hconfig, htally, htable⟩ := (mappedOffset_eq_false_iff _).1 hunmapped
  unfold readRegister
  dsimp only
  split
  · rw [readControl_above s hcontrol]; rfl
  split
  · rw [readConfig_of_configMask_eq_zero s.cfg hconfig]; rfl
  split
  · have hnone : readTally s addr.toNat = none := by
      rcases Nat.lt_or_ge addr.toNat 0x100 with hlo | hlo
      · exact readTally_below s hlo
      · exact readTally_above s (by omega)
    rw [hnone]; rfl
  split
  · omega
  · rfl

/-- The first configuration row takes its addresses apart into their high bits and an offset (rule R290). -/
theorem configLo_address {addr : BitVec 12} (h : addr.extractLsb' 5 7 = 1) :
    0b0000001#7 ++ addr.extractLsb' 0 5 = addr := by
  have hrow : addr.toNat / 32 % 128 = 1 := by
    simpa [BitVec.extractLsb'_toNat, Nat.shiftRight_eq_div_pow] using congrArg BitVec.toNat h
  apply BitVec.eq_of_toNat_eq
  rw [toNat_configLo, BitVec.extractLsb'_toNat, Nat.shiftRight_zero]
  omega

/-- The second configuration row takes its addresses apart likewise. -/
theorem configHi_address {addr : BitVec 12} (h : addr.extractLsb' 6 6 = 1) :
    0b000001#6 ++ addr.extractLsb' 0 6 = addr := by
  have hrow : addr.toNat / 64 % 64 = 1 := by
    simpa [BitVec.extractLsb'_toNat, Nat.shiftRight_eq_div_pow] using congrArg BitVec.toNat h
  apply BitVec.eq_of_toNat_eq
  rw [toNat_configHi, BitVec.extractLsb'_toNat, Nat.shiftRight_zero]
  omega

/-- Both configuration rows of the opcode table write as a bus write at their address does (rules R82, R290). -/
theorem busWrite_configRow (s : State) {addr : BitVec 12} (data : BitVec 32) (hlo : 0x020 ≤ addr.toNat)
    (hhi : addr.toNat ≤ 0x07F) : busWrite addr data s = writeConfig addr data s := by
  rcases busWrite_cases s addr data with ⟨hmis, he⟩ | ⟨-, rfl, -⟩ | ⟨-, rfl, -⟩ | ⟨-, rfl, -⟩ | ⟨-, -, -, he⟩ |
    ⟨halign, -, -, -, hout, -⟩
  · rw [he, writeConfig, if_pos hmis]
  · exact absurd hlo (by decide)
  · exact absurd hlo (by decide)
  · exact absurd hlo (by decide)
  · exact he
  · rw [misaligned_eq_false_iff] at halign
    omega

/-- The row that the decoder gives a host write does what the `BUS_WRITE` of its address and datum does (rule R290; log
entry 4). -/
theorem exec_decodeHostWrite (addr : BitVec 12) (data : BitVec 32) (s : State) :
    exec (decodeHostWrite addr data) s = .next (busWrite addr data s) := by
  unfold decodeHostWrite
  split
  · next ha =>
    subst ha
    have hctrl : busWrite 0x008 data s = writeCtrl data s := rfl
    rw [hctrl, writeCtrl]
    cases data.getLsbD 1 <;> cases data.getLsbD 0 <;> rfl
  split
  · next ha => subst ha; rfl
  split
  · next ha => subst ha; rfl
  split
  · next hrow =>
    have ha := configLo_address hrow
    have hoff := toNat_configLo (addr.extractLsb' 0 5)
    rw [ha] at hoff
    rw [busWrite_configRow s data (by omega) (by omega)]
    exact congrArg (fun a => Host.Outcome.next (writeConfig a data s)) ha
  split
  · next hrow =>
    have ha := configHi_address hrow
    have hoff := toNat_configHi (addr.extractLsb' 0 6)
    rw [ha] at hoff
    rw [busWrite_configRow s data (by omega) (by omega)]
    exact congrArg (fun a => Host.Outcome.next (writeConfig a data s)) ha
  · rfl

/-- A write at an aligned offset that the register map does not name is ignored (rule R81). -/
theorem busWrite_of_not_mapped (s : State) {addr : BitVec 12} (data : BitVec 32) (halign : addr.toNat % 4 = 0)
    (hunmapped : mappedOffset addr.toNat = false) : busWrite addr data s = s := by
  obtain ⟨hcontrol, hconfig, -, -⟩ := (mappedOffset_eq_false_iff _).1 hunmapped
  rcases busWrite_cases s addr data with ⟨hmis, -⟩ | ⟨-, rfl, -⟩ | ⟨-, rfl, -⟩ | ⟨-, rfl, -⟩ | ⟨-, -, -, he⟩ |
    ⟨-, -, -, -, -, he⟩
  · exact absurd halign ((misaligned_iff addr).1 hmis)
  · exact absurd hcontrol (by decide)
  · exact absurd hcontrol (by decide)
  · exact absurd hcontrol (by decide)
  · rw [he, writeConfig_unmapped s data halign hconfig]
  · exact he

/-- Settles O31: the read by `readRegister_unmapped`; the write is the `BUS_WRITE` of its address (`exec_decodeHostWrite`),
which finds no register (`busWrite_of_not_mapped`). -/
theorem unmappedOffsets : Obligations.UnmappedOffsets := by
  intro addr data s halign hunmapped
  refine ⟨?_, ?_⟩
  · have hread : busRead addr s = emit (.rdata 0) s := by
      rw [busRead, (misaligned_eq_false_iff addr).2 halign, readRegister_unmapped s halign hunmapped]
      rfl
    exact congrArg Host.Outcome.next hread
  · rw [exec_decodeHostWrite, busWrite_of_not_mapped s data halign hunmapped]

end Sys2Proof.Machine
end

section
/-! PROOFS. What the handle bits, the tally and the latches keep (rules R90, R263(c), R299): instructions other than samples change
none of them while the block stays stopped and no memory while it runs; a sample acknowledges a clear handle alone, and clears
the handles only where it ends the round's last slot. -/

namespace Sys2Proof.Machine

variable {s t u : State}

/-! ### Every instruction but a sample -/

/-- What the end of a run leaves for the host to read, with the registers of the Reader and the Gate (rules R90, R299). -/
def snapshot (s : State) : Reader × Gate × Tally × Diag × DecLast × Memory × BitVec 32 × Bool :=
  (s.rdr, s.gate, s.tally, s.diag, s.dec, s.mem, s.lastIdx, s.haveLast)

/-- A block that stays stopped keeps its snapshot, and a running block its memories. -/
structure KeepsResults (s t : State) : Prop where
  stopped : s.rdr.rstate = .done → t.rdr.rstate = .done → snapshot t = snapshot s
  running : s.rdr.rstate ≠ .done → t.mem = s.mem

theorem keepsResults_of_snapshot (h : snapshot t = snapshot s) : KeepsResults s t := by
  refine ⟨fun _ _ => h, fun _ => ?_⟩
  simp only [snapshot, Prod.mk.injEq] at h
  obtain ⟨-, -, -, -, -, hmem, -⟩ := h
  exact hmem

/-- A running block ignores START, a refused one touches no result, and an accepted one leaves `DONE` (rule R293). -/
theorem keepsResults_start (s : State) : KeepsResults s (start s) := by
  rcases start_cases s with ⟨-, he⟩ | ⟨-, -, he⟩ | ⟨hd, hv, he⟩ <;> rw [he]
  · exact keepsResults_of_snapshot rfl
  · exact keepsResults_of_snapshot rfl
  · refine ⟨fun _ hstopped => ?_, fun hrun => absurd hd hrun⟩
    rcases startInit_rstate hv with hr | hr <;> rw [hr] at hstopped <;> cases hstopped

theorem keepsResults_stop (s : State) : KeepsResults s (stop s) := by
  rcases stop_cases s with ⟨-, he⟩ | ⟨hrun, he⟩ <;> rw [he]
  · exact keepsResults_of_snapshot rfl
  · exact ⟨fun hd => absurd hd hrun, fun _ => rfl⟩

theorem keepsResults_writeConfig (s : State) (addr : BitVec 12) (data : BitVec 32) :
    KeepsResults s (writeConfig addr data s) := by
  apply keepsResults_of_snapshot
  rcases writeConfig_cases s addr data with ⟨-, he⟩ | ⟨-, -, he⟩ | ⟨-, -, c, -, he⟩ | ⟨-, -, -, he⟩ <;> rw [he] <;> rfl

theorem keepsResults_busWrite (s : State) (addr : BitVec 12) (data : BitVec 32) :
    KeepsResults s (busWrite addr data s) := by
  rcases busWrite_cases s addr data with ⟨-, he⟩ | ⟨-, -, he⟩ | ⟨-, -, he⟩ | ⟨-, -, he⟩ | ⟨-, -, -, he⟩ |
    ⟨-, -, -, -, -, he⟩ <;> rw [he]
  · exact keepsResults_of_snapshot rfl
  · rcases writeCtrl_cases s data with ⟨-, he⟩ | ⟨-, -, he⟩ | ⟨-, -, he⟩ <;> rw [he]
    · exact keepsResults_stop s
    · exact keepsResults_start s
    · exact keepsResults_of_snapshot rfl
  · exact keepsResults_of_snapshot rfl
  · exact keepsResults_of_snapshot rfl
  · exact keepsResults_writeConfig s addr data
  · exact keepsResults_of_snapshot rfl

/-- The `BUS_ERR` and the word of both bus strobes touch no result (rule R113). -/
theorem keepsResults_busWriteRead (s : State) (addr : BitVec 12) (data : BitVec 32) :
    KeepsResults s (busWriteRead addr data s) :=
  ⟨(keepsResults_busWrite s addr data).stopped, (keepsResults_busWrite s addr data).running⟩

theorem keepsResults_busRead (s : State) (addr : BitVec 12) : KeepsResults s (busRead addr s) := by
  apply keepsResults_of_snapshot
  unfold busRead
  split <;> rfl

/-- A stopped block awaits no `TX_DONE`, and a running one puts nothing in memory at it (rule R253). -/
theorem keepsResults_txDone (h : Inv s) : KeepsResults s (txDone s) := by
  refine ⟨fun hd _ => ?_, fun _ => txDone_mem s⟩
  rcases txDone_cases s with ⟨-, he⟩ | ⟨hb, -⟩ | ⟨hb, -⟩ | ⟨hb, -⟩
  · rw [he]; rfl
  all_goals exact absurd (hb.symm.trans (h.doneQuiet hd).1) (by decide)

/-- Every instruction but `RESET` and a running block's sample. -/
theorem keepsResults_exec (h : Inv s) {i : Instr} (hreset : i ≠ .reset)
    (hsample : s.rdr.rstate = .done ∨ ∀ idx a q, i ≠ .sample idx a q) (ht : exec i s = .next t) :
    KeepsResults s t := by
  cases i with
  | reset => exact absurd rfl hreset
  | sample idx a q =>
    rcases hsample with hd | hother
    · rcases sampleStep_next s idx a q t ht with ⟨-, rfl⟩ | ⟨hrun, -⟩
      · exact keepsResults_of_snapshot rfl
      · exact absurd hd hrun
    · exact absurd rfl (hother idx a q)
  | txDone => exact Host.Outcome.next.inj ht ▸ keepsResults_txDone h
  | busWrite addr data => exact Host.Outcome.next.inj ht ▸ keepsResults_busWrite s addr data
  | busRead addr => exact Host.Outcome.next.inj ht ▸ keepsResults_busRead s addr
  | busWriteRead addr data => exact Host.Outcome.next.inj ht ▸ keepsResults_busWriteRead s addr data
  | ctrlStart => exact Host.Outcome.next.inj ht ▸ keepsResults_start s
  | ctrlStop | ctrlStartStop => exact Host.Outcome.next.inj ht ▸ keepsResults_stop s
  | ctrlNop | irqPendW1C | irqEnWrite => exact Host.Outcome.next.inj ht ▸ keepsResults_of_snapshot rfl
  | configWriteLo | configWriteHi => exact Host.Outcome.next.inj ht ▸ keepsResults_writeConfig s _ _
  | replyRn16 | replyId =>
    obtain rfl := Host.Outcome.next.inj ht
    exact keepsResults_of_snapshot (by rw [presentReply_eq]; rfl)
  | query | queryRep | queryAdjust | ack | select =>
    exact Host.Outcome.next.inj ((exec_command_of_inv h rfl).symm.trans ht) ▸ keepsResults_of_snapshot rfl

/-- Settles O59: an instruction after which the block is still stopped keeps its snapshot (`keepsResults_exec`). -/
theorem doneIsASnapshot : Obligations.DoneIsASnapshot := by
  intro i s t hreset h hd ht hstopped
  have keeps := (keepsResults_exec h hreset (.inl hd) ht).stopped hd hstopped
  simpa only [snapshot, Prod.mk.injEq] using keeps

/-! ### Which Commands are an `ACK` -/

/-- No `ACK` has been emitted (rule R137). -/
def EmitsNoAck (s t : State) : Prop := ∀ c : Command, commandsOf t.outs = commandsOf s.outs ++ [c] → c.kind ≠ 4

theorem emitsNoAck_of_silent (h : commandsOf t.outs = commandsOf s.outs) : EmitsNoAck s t := by
  intro c hc
  simp [h] at hc

theorem emitsNoAck_of_emits (kind : BitVec 3) {c : Command} (h : t.outs = s.outs ++ [.cmd c]) (hc : c.kind = kind)
    (hkind : kind ≠ 4) : EmitsNoAck s t := by
  intro c' hout
  obtain rfl : c = c' := by simpa [h] using hout
  exact hc ▸ hkind

/-- A round begins with a `SELECT` or a `QUERY`, if with any Command (rule R243). -/
theorem emitsNoAck_roundBegin (s : State) : EmitsNoAck s (roundBegin s) := by
  rcases roundBegin_cases s with ⟨-, he⟩ | ⟨-, -, ⟨-, he⟩ | ⟨-, he⟩⟩ <;> rw [he]
  · exact emitsNoAck_of_silent rfl
  · exact emitsNoAck_of_emits 5 rfl rfl (by decide)
  · exact emitsNoAck_of_emits 1 rfl rfl (by decide)

/-- A slot's end opens the next slot with a `QUERYREP`, or the next round (rule R259). -/
theorem emitsNoAck_endSlot (s : State) (o : SlotOutcome) : EmitsNoAck s (endSlot o s) := by
  rcases endSlot_cases s o with ⟨-, he⟩ | ⟨-, -, he⟩ | ⟨-, -, he⟩ <;> rw [he]
  · exact emitsNoAck_roundBegin (roundEnd (slotCounted s o))
  · exact emitsNoAck_of_silent rfl
  · exact emitsNoAck_of_emits 2 rfl rfl (by decide)

/-- Of the Commands only a `QUERY` is emitted at a `TX_DONE` (rule R253). -/
theorem emitsNoAck_txDone (s : State) : EmitsNoAck s (txDone s) := by
  rcases txDone_cases s with ⟨-, he⟩ | ⟨-, -, -, he⟩ | ⟨-, -, -, he⟩ | ⟨-, -, he⟩ <;> rw [he]
  · exact emitsNoAck_of_silent rfl
  · exact emitsNoAck_of_silent rfl
  · exact emitsNoAck_of_emits 1 rfl rfl (by decide)
  · exact emitsNoAck_of_silent rfl

/-- The handle stands in the low 16 bits of an `ACK`'s word (rule R137). -/
theorem ackWord_handle (rn : BitVec 16) : (ackWord rn).extractLsb' 0 16 = rn := by
  apply BitVec.eq_of_toNat_eq
  rw [ackWord, BitVec.extractLsb'_toNat, BitVec.toNat_setWidth, toNat_append_eq_add, Nat.shiftRight_zero]
  have hrn := rn.isLt
  have hopcode : (0b01#2).toNat = 1 := rfl
  omega

/-! ### A sample's step -/

/-- A read of a handle's bit sees the handle bits alone. -/
theorem Memory.readHb_congr {m n : Memory} (h : m.hb = n.hb) (rn : BitVec 16) : m.readHb rn = n.readHb rn := by
  rw [Memory.readHb, Memory.readHb, h]

/-- What a slot's step makes of the handles: it clears them only as it ends the round's last slot, and it acknowledges a clear
handle alone, which it sets (rule R263(c)). -/
structure HandleStep (s t : State) : Prop where
  keeps : ∀ rn : BitVec 16, s.mem.readHb rn = true → t.mem.readHb rn = true ∨
    (s.rdr.slotsRem = 1 ∧ t.tally.tRounds = s.tally.tRounds + 1)
  acks : ∀ c : Command, commandsOf t.outs = commandsOf s.outs ++ [c] → c.kind = 4 →
    s.mem.readHb (c.word.extractLsb' 0 16) = false ∧ t.mem.readHb (c.word.extractLsb' 0 16) = true

/-- The step of a state that differs from `s` in nothing that the handles' rule speaks of. -/
theorem HandleStep.before (h : HandleStep u t) (hhb : u.mem.hb = s.mem.hb)
    (hslots : u.rdr.slotsRem = s.rdr.slotsRem) (hrounds : u.tally.tRounds = s.tally.tRounds)
    (hc : commandsOf u.outs = commandsOf s.outs) : HandleStep s t where
  keeps := by simpa only [Memory.readHb_congr hhb, hslots, hrounds] using h.keeps
  acks := by simpa only [Memory.readHb_congr hhb, hc] using h.acks

/-- A step that clears no handle and emits no `ACK`. -/
theorem handleStep_of_keeps (hhb : t.mem.hb = s.mem.hb) (hc : EmitsNoAck s t) : HandleStep s t where
  keeps rn hrn := .inl ((Memory.readHb_congr hhb rn).trans hrn)
  acks c hout hkind := absurd hkind (hc c hout)

/-- Beginning a round leaves the count of the ended ones (rule R243). -/
theorem roundBegin_tRounds (s : State) : (roundBegin s).tally.tRounds = s.tally.tRounds := by
  rcases roundBegin_cases s with ⟨-, he⟩ | ⟨-, -, ⟨-, he⟩ | ⟨-, he⟩⟩ <;> rw [he] <;> rfl

theorem slotCounted_tRounds (s : State) (o : SlotOutcome) : (slotCounted s o).tally.tRounds = s.tally.tRounds := by
  cases o <;> rfl

/-- `END_SLOT` clears the handles only where it ends the round (rules R243, R259, R260). -/
theorem handleStep_endSlot (s : State) (o : SlotOutcome) : HandleStep s (endSlot o s) := by
  rcases endSlot_cases s o with ⟨hlast, he⟩ | ⟨-, -, he⟩ | ⟨-, -, he⟩
  · refine ⟨fun _ _ => .inr ⟨by bv_omega, ?_⟩, fun c hout hkind => absurd hkind (emitsNoAck_endSlot s o c hout)⟩
    rw [he, roundBegin_tRounds, roundEnd_tally, slotCounted_tRounds]
  · exact handleStep_of_keeps (by rw [he]; rfl) (emitsNoAck_endSlot s o)
  · exact handleStep_of_keeps (by rw [he]; rfl) (emitsNoAck_endSlot s o)

/-- An `ACK` sets its handle's bit and clears none (rules R84, R252). -/
theorem handleStep_emitAck (hmem : s.mem.wf = true) {rn : BitVec 16} (hclear : s.mem.readHb rn = false) :
    HandleStep s (emitAck rn s) := by
  have hread (r : BitVec 16) : (emitAck rn s).mem.readHb r = if r = rn then true else s.mem.readHb r :=
    Memory.readHb_setHb s.mem hmem rn r
  refine ⟨fun r hr => .inl (by rw [hread]; split <;> simp [hr]), fun c hout _ => ?_⟩
  have hword : c.word = BitVec.ofNat 128 (msbFirst (ackBits rn)) := by
    have hnew : commandsOf (emitAck rn s).outs = commandsOf s.outs ++
        [⟨4, BitVec.ofNat 128 (msbFirst (ackBits rn)), BitVec.ofNat 8 (ackBits rn).length, 0, s.cfg.txTiming⟩] :=
      commandsOf_append _ _
    rw [hnew, List.append_cancel_left_eq, List.singleton_inj] at hout
    exact hout ▸ rfl
  have hhandle : c.word.extractLsb' 0 16 = rn := by rw [hword, ofNat_ackBits, ackWord_handle]
  rw [hhandle, hread, if_pos rfl]
  exact ⟨hclear, rfl⟩

/-- `ACK_OR_REFUSE` refuses a handle already acknowledged (rule R252). -/
theorem handleStep_ackOrRefuse (hmem : s.mem.wf = true) (rn : BitVec 16) : HandleStep s (ackOrRefuse rn s) := by
  rcases ackOrRefuse_cases s rn with ⟨-, he⟩ | ⟨hclear, he⟩ <;> rw [he]
  · exact (handleStep_endSlot _ _).before rfl rfl rfl rfl
  · exact handleStep_emitAck hmem hclear

theorem recordId_tRounds (s : State) (pc : BitVec 16) (epc : BitVec 96) :
    (recordId pc epc s).tally.tRounds = s.tally.tRounds := by
  rcases recordId_cases s pc epc with ⟨-, he⟩ | ⟨-, -, he⟩ | ⟨-, -, he⟩ <;> rw [he] <;> rfl

/-- `CLASSIFY` (rules R251, R254). -/
theorem handleStep_classify (hmem : s.mem.wf = true) (d : Decoded) : HandleStep s (classify d s) := by
  rcases classify_cases s d with ⟨-, -, he⟩ | ⟨-, -, he⟩ | ⟨-, -, he⟩ | ⟨-, -, he⟩ | ⟨-, -, -, he⟩ | ⟨-, -, he⟩ |
    ⟨-, -, he⟩ <;> rw [he]
  · exact handleStep_endSlot s _
  · exact handleStep_endSlot s _
  · exact handleStep_ackOrRefuse hmem _
  · exact handleStep_of_keeps rfl (emitsNoAck_of_silent rfl)
  · exact (handleStep_endSlot _ _).before (by simp) (by simp) (recordId_tRounds s _ _) (by simp)
  · exact handleStep_endSlot s _
  · exact handleStep_of_keeps rfl (emitsNoAck_of_silent rfl)

/-- The Reader's part of a sample step (rules R170, R250, R255). -/
theorem handleStep_afterGate {r : State × Option Frame} (hmem : r.1.mem.wf = true) :
    HandleStep r.1 (afterGate r) := by
  rcases afterGate_cases r with ⟨f, -, he⟩ | ⟨-, -, he⟩ | ⟨-, -, he⟩ <;> rw [he]
  · rcases onFrame_cases (latchLast _ r.1) f (decode r.1 f (expect r.1)) with ⟨-, he⟩ | ⟨-, he⟩ <;> rw [he]
    · exact handleStep_of_keeps rfl (emitsNoAck_of_silent rfl)
    · exact (handleStep_classify (by simpa) _).before (by simp) (by simp) (by simp) (by simp)
  · rcases slotTick_cases r.1 with ⟨-, -, he⟩ | ⟨-, he⟩ <;> rw [he]
    · refine (handleStep_classify ?_ _).before rfl rfl rfl rfl
      exact hmem
    · exact handleStep_of_keeps rfl (emitsNoAck_of_silent rfl)
  · exact handleStep_of_keeps rfl (emitsNoAck_of_silent rfl)

/-- Every sample makes of the handles what one slot's step makes of them: the Gate stores in the frame buffer alone. -/
theorem handleStep_sampleStep (hmem : s.mem.wf = true) {idx : BitVec 32} {i q : BitVec 16}
    (ht : sampleStep idx i q s = .next t) : HandleStep s t := by
  rcases sampleStep_next s idx i q t ht with ⟨-, rfl⟩ | ⟨-, -, rfl⟩
  · exact handleStep_of_keeps rfl (emitsNoAck_of_silent rfl)
  · have hwf := (updateRel_keepsForms.gateStep (noteIndex idx s) idx ⟨i, q⟩).mem (by simpa)
    exact (handleStep_afterGate hwf).before (by simp) (by simp) (by simp) (by simp)

/-! ### Instructions -/

/-- A running block emits an `ACK` at a sample alone (rule R252). -/
theorem emitsNoAck_exec (h : Inv s) (hrun : s.rdr.rstate ≠ .done) {i : Instr} (hreset : i ≠ .reset)
    (hsample : ∀ idx a q, i ≠ .sample idx a q) (ht : exec i s = .next t) : EmitsNoAck s t := by
  rcases exec_reader_cases h ht with ⟨-, -, hc⟩ | ⟨hi, -⟩ | ⟨-, hd, -⟩ | ⟨-, rfl⟩ | ⟨⟨idx, a, q, hi⟩, -⟩
  · exact emitsNoAck_of_silent hc
  · exact absurd hi hreset
  · exact absurd hd hrun
  · exact emitsNoAck_txDone s
  · exact absurd hi (hsample idx a q)

/-- Settles O58: a sample makes one slot's step of the handles (`handleStep_sampleStep`); every other instruction leaves the
memories (`keepsResults_exec`) and emits no `ACK` (`emitsNoAck_exec`). -/
theorem noHandleAcknowledgedTwice : Obligations.NoHandleAcknowledgedTwice := by
  intro i s t h hmem hrun hreset ht
  by_cases hsample : ∃ idx a q, i = .sample idx a q
  · obtain ⟨idx, a, q, rfl⟩ := hsample
    have hstep := handleStep_sampleStep hmem ht
    exact ⟨fun rn hrn => (hstep.keeps rn hrn).imp_right fun hend => ⟨⟨idx, a, q, rfl⟩, hend⟩, hstep.acks⟩
  · have hother : ∀ idx a q, i ≠ .sample idx a q := fun idx a q hi => hsample ⟨idx, a, q, hi⟩
    have hkept : t.mem = s.mem := (keepsResults_exec h hreset (.inr hother) ht).running hrun
    have hnoAck := emitsNoAck_exec h hrun hreset hother ht
    exact ⟨fun rn hrn => .inl (hkept ▸ hrn), fun c hout hkind => absurd hkind (hnoAck c hout)⟩

end Sys2Proof.Machine
end

section
/-! PROOFS. The encodings (rules R110 to R115, R134 to R138, R152, R153, R290): decoding the encoding of an instruction gives
the instruction back, a Command that decodes is its own encoding, and the events of one clock cycle are taken in order. -/

namespace Sys2Proof.Machine

/-! ### Fields of bit sequences -/

/-- A word is the value of its own bits. -/
theorem ofNat_toNat_mod {n : Nat} (x : BitVec n) : BitVec.ofNat n (x.toNat % 2 ^ n) = x := by
  rw [Nat.mod_eq_of_lt x.isLt, BitVec.ofNat_toNat, BitVec.setWidth_eq]

/-- A leading bit above the value is 0. -/
theorem bitsOf_succ_of_lt {n v : Nat} (h : v < 2 ^ n) : bitsOf (n + 1) v = false :: bitsOf n v := by
  rw [bitsOf, Nat.testBit_lt_two_pow h]

/-- The bits of 0. -/
theorem bitsOf_zero (n : Nat) : bitsOf n 0 = List.replicate n false := by
  induction n with
  | zero => rfl
  | succ n ih => rw [bitsOf_succ_of_lt (by positivity), ih, List.replicate_succ]

/-! ### Commands -/

/-- The hardwired `M` and `TRext` bits stand as a field of three zeros (rule R134). -/
theorem decodeCommand_queryBits (dr : BitVec 1) (sel session : BitVec 2) (target : BitVec 1) (q : BitVec 4)
    (crc : BitVec 5) :
    decodeCommand (queryBits dr sel session target q crc) = .ok (.query dr sel session target q crc) := by
  have hbits : queryBits dr sel session target q crc = true :: false :: false :: false :: (bitsOf 1 dr.toNat ++
      (bitsOf 3 0 ++ (bitsOf 2 sel.toNat ++ (bitsOf 2 session.toNat ++ (bitsOf 1 target.toNat ++
        (bitsOf 4 q.toNat ++ bitsOf 5 crc.toNat)))))) := rfl
  rw [hbits, decodeCommand, decodeQuery]
  simp (disch := omega) only [List.length_append, bitsOf_length, fieldAt_skip, fieldAt_here, fieldAt_whole,
    Nat.reduceAdd, Nat.reduceSub, ofNat_toNat_mod]
  rfl

theorem decodeCommand_queryAdjustBits (session : BitVec 2) (upDn : BitVec 3) :
    decodeCommand (queryAdjustBits session upDn) = .ok (.queryAdjust session upDn) := by
  have hbits : queryAdjustBits session upDn =
      true :: false :: false :: true :: (bitsOf 2 session.toNat ++ bitsOf 3 upDn.toNat) := rfl
  rw [hbits, decodeCommand]
  simp (disch := omega) only [List.length_append, bitsOf_length, fieldAt_skip, fieldAt_here, fieldAt_whole,
    Nat.reduceAdd, Nat.reduceSub, ofNat_toNat_mod, if_true]

theorem decodeCommand_queryRepBits (session : BitVec 2) :
    decodeCommand (queryRepBits session) = .ok (.queryRep session) := by
  have hbits : queryRepBits session = false :: false :: bitsOf 2 session.toNat := rfl
  rw [hbits, decodeCommand, if_pos (bitsOf_length ..), fieldAt_whole, ofNat_toNat_mod]

theorem decodeCommand_ackBits (rn : BitVec 16) : decodeCommand (ackBits rn) = .ok (.ack rn) := by
  have hbits : ackBits rn = false :: true :: bitsOf 16 rn.toNat := rfl
  rw [hbits, decodeCommand, if_pos (bitsOf_length ..), fieldAt_whole, ofNat_toNat_mod]

/-- The EBV extension bit stands as a field of its own before the pointer; the fields behind the mask begin where the Length
field says (rules R138, R162). -/
theorem decodeCommand_selectBits (target action : BitVec 3) (memBank : BitVec 2) (pointer : BitVec 7)
    (length : BitVec 6) (mask : BitVec 32) (trunc : BitVec 1) (crc : BitVec 16) (hlength : length.toNat ≤ 32)
    (hmask : mask.toNat < 2 ^ length.toNat) :
    decodeCommand (selectBits target action memBank pointer length mask trunc crc) =
      .ok (.select target action memBank pointer length mask trunc crc) := by
  have hbits : selectBits target action memBank pointer length mask trunc crc =
      true :: false :: true :: false :: (bitsOf 3 target.toNat ++ (bitsOf 3 action.toNat ++ (bitsOf 2 memBank.toNat ++
        (bitsOf 1 0 ++ (bitsOf 7 pointer.toNat ++ (bitsOf 8 length.toNat ++ (bitsOf length.toNat mask.toNat ++
          (bitsOf 1 trunc.toNat ++ bitsOf 16 crc.toNat)))))))) := by
    rw [selectBits, selectBody, bitsOf_succ_of_lt pointer.isLt]
    simp [bitsOf_zero]
  have hlen : length.toNat % 2 ^ 8 = length.toNat := Nat.mod_eq_of_lt (by omega)
  rw [hbits, decodeCommand, decodeSelect]
  have htrunc : 24 + length.toNat - 3 - 3 - 2 - 1 - 7 - 8 - length.toNat = 0 := by omega
  have hcrc : 25 + length.toNat - 3 - 3 - 2 - 1 - 7 - 8 - length.toNat - 1 = 0 := by omega
  simp (disch := omega) only [List.length_append, bitsOf_length, fieldAt_skip, fieldAt_here, fieldAt_whole,
    Nat.reduceAdd, Nat.reduceSub, ofNat_toNat_mod, hlen, htrunc, hcrc, Nat.mod_eq_of_lt hmask, BitVec.ofNat_toNat,
    BitVec.setWidth_eq]
  rw [if_neg (by omega), if_neg (by omega), if_neg (by omega)]

/-! ### Replies -/

theorem decodeReply_bitsOf (rn hi lo : BitVec 16) :
    decodeReply (bitsOf 16 rn.toNat) hi lo = .ok (.replyRn16 rn hi lo) := by
  rw [decodeReply, if_pos (bitsOf_length ..), msbFirst_bitsOf, ofNat_toNat_mod]

theorem decodeReply_replyIdBits (pc : BitVec 16) (epc : BitVec 96) (crc hi lo : BitVec 16) :
    decodeReply (replyIdBits pc epc crc) hi lo = .ok (.replyId pc epc crc hi lo) := by
  rw [decodeReply, replyIdBits, List.append_assoc]
  simp (disch := omega) only [List.length_append, bitsOf_length, fieldAt_skip, fieldAt_here, fieldAt_whole,
    Nat.reduceAdd, Nat.reduceSub, ofNat_toNat_mod]
  rfl

/-! ### Host writes -/

/-- A cycle with `bus_wr` alone is the host write of its pins (rule R113). -/
theorem decodeItem_writeCycle (addr : BitVec 12) (data : BitVec 32) :
    decodeItem (writeCycle addr data) = .ok (decodeHostWrite addr data, none) := by
  simp [decodeItem, writeCycle, decodeCycle, cycleOf, Cycle.without]

/-- A write of `CTRL` is read by its two strobes (rule R42). -/
theorem decodeHostWrite_ctrl (rsv : BitVec 30) (strobes : BitVec 2) :
    decodeHostWrite 0x008 (rsv ++ strobes) =
      if strobes.getLsbD 1 then (if strobes.getLsbD 0 then .ctrlStartStop rsv else .ctrlStop rsv)
      else if strobes.getLsbD 0 then .ctrlStart rsv else .ctrlNop rsv := by
  have hrsv : (rsv ++ strobes).extractLsb' 2 30 = rsv := BitVec.extractLsb'_append_eq_left
  have hstop : (rsv ++ strobes).getLsbD 1 = strobes.getLsbD 1 := BitVec.getLsbD_append
  have hstart : (rsv ++ strobes).getLsbD 0 = strobes.getLsbD 0 := BitVec.getLsbD_append
  rw [decodeHostWrite, if_pos rfl, hrsv, hstop, hstart]
  cases strobes.getLsbD 1 <;> cases strobes.getLsbD 0 <;> rfl

/-- The host-write rows below the configuration range have addresses of their own. -/
theorem decodeHostWrite_of_ge {addr : BitVec 12} (data : BitVec 32) (h : 0x020 ≤ addr.toNat) :
    decodeHostWrite addr data =
      if addr.extractLsb' 5 7 = 1 then .configWriteLo (addr.extractLsb' 0 5) data
      else if addr.extractLsb' 6 6 = 1 then .configWriteHi (addr.extractLsb' 0 6) data
      else .busWrite addr data := by
  have hne (k : BitVec 12) (hk : k.toNat < 0x020) : addr ≠ k := by
    rintro rfl
    omega
  rw [decodeHostWrite, if_neg (hne _ (by decide)), if_neg (hne _ (by decide)), if_neg (hne _ (by decide))]

theorem decodeHostWrite_configLo (off : BitVec 5) (data : BitVec 32) :
    decodeHostWrite (0b0000001#7 ++ off) data = .configWriteLo off data := by
  have hrow : (0b0000001#7 ++ off).extractLsb' 5 7 = 1 := BitVec.extractLsb'_append_eq_left
  rw [decodeHostWrite_of_ge data (by rw [toNat_configLo]; omega), if_pos hrow, BitVec.extractLsb'_append_eq_right]

theorem decodeHostWrite_configHi (off : BitVec 6) (data : BitVec 32) :
    decodeHostWrite (0b000001#6 ++ off) data = .configWriteHi off data := by
  have haddr := toNat_configHi off
  have hlo : (0b000001#6 ++ off).extractLsb' 5 7 ≠ 1 := by
    intro hrow
    have hoff := toNat_configLo ((0b000001#6 ++ off).extractLsb' 0 5)
    rw [configLo_address hrow] at hoff
    omega
  have hrow : (0b000001#6 ++ off).extractLsb' 6 6 = 1 := BitVec.extractLsb'_append_eq_left
  rw [decodeHostWrite_of_ge data (by omega), if_neg hlo, if_pos hrow, BitVec.extractLsb'_append_eq_right]

/-- An address that no host-write row takes is a plain `BUS_WRITE` (log entry 4). -/
theorem decodeHostWrite_busWrite {addr : BitVec 12} (data : BitVec 32) (h : hostWriteRow addr = false) :
    decodeHostWrite addr data = .busWrite addr data := by
  simp only [hostWriteRow, Bool.or_eq_false_iff, beq_eq_false_iff_ne, Bool.and_eq_false_iff,
    decide_eq_false_iff_not] at h
  obtain ⟨⟨⟨hctrl, hpend⟩, hen⟩, hconfig⟩ := h
  have hlo : addr.extractLsb' 5 7 ≠ 1 := by
    intro hrow
    have hoff := toNat_configLo (addr.extractLsb' 0 5)
    rw [configLo_address hrow] at hoff
    omega
  have hhi : addr.extractLsb' 6 6 ≠ 1 := by
    intro hrow
    have hoff := toNat_configHi (addr.extractLsb' 0 6)
    rw [configHi_address hrow] at hoff
    omega
  rw [decodeHostWrite, if_neg hctrl, if_neg hpend, if_neg hen, if_neg hlo, if_neg hhi]

/-! ### The round trip -/

/-- A Command that its bits decode to is the whole item. -/
theorem decodeItem_command {bits : List Bool} {i : Instr} (h : decodeCommand bits = .ok i) :
    decodeItem (.command bits) = .ok (i, none) := by
  rw [decodeItem, h]
  rfl

/-- A reply that its bits decode to is the whole item. -/
theorem decodeItem_reply {bits : List Bool} {hi lo : BitVec 16} {i : Instr} (h : decodeReply bits hi lo = .ok i) :
    decodeItem (.reply bits hi lo) = .ok (i, none) := by
  rw [decodeItem, h]
  rfl

/-- A host write that its pins decode to is the whole item. -/
theorem decodeItem_hostWrite {addr : BitVec 12} {data : BitVec 32} {i : Instr} (h : decodeHostWrite addr data = i) :
    decodeItem (writeCycle addr data) = .ok (i, none) := by
  rw [decodeItem_writeCycle, h]

/-- Settles O4: instruction by instruction, the decoder's branch for its encoding. -/
theorem decodeEncodeRoundTrip : Obligations.DecodeEncodeRoundTrip := by
  intro i hwf
  cases i with
  | reset | busRead | busWriteRead | txDone | sample =>
    simp [encode, decodeItem, decodeCycle, cycleOf, Cycle.without]
  | busWrite addr data =>
    exact decodeItem_hostWrite (decodeHostWrite_busWrite data (by simpa [Instr.wellFormed] using hwf))
  | ctrlStart rsv | ctrlStop rsv | ctrlStartStop rsv | ctrlNop rsv =>
    exact decodeItem_hostWrite (decodeHostWrite_ctrl rsv _)
  | irqPendW1C | irqEnWrite => exact decodeItem_hostWrite rfl
  | configWriteLo off data => exact decodeItem_hostWrite (decodeHostWrite_configLo off data)
  | configWriteHi off data => exact decodeItem_hostWrite (decodeHostWrite_configHi off data)
  | query => exact decodeItem_command (decodeCommand_queryBits ..)
  | queryRep => exact decodeItem_command (decodeCommand_queryRepBits _)
  | queryAdjust => exact decodeItem_command (decodeCommand_queryAdjustBits ..)
  | ack => exact decodeItem_command (decodeCommand_ackBits _)
  | select =>
    simp only [Instr.wellFormed, Bool.and_eq_true, decide_eq_true_iff] at hwf
    exact decodeItem_command (decodeCommand_selectBits _ _ _ _ _ _ _ _ hwf.1 hwf.2)
  | replyRn16 => exact decodeItem_reply (decodeReply_bitsOf ..)
  | replyId => exact decodeItem_reply (decodeReply_replyIdBits ..)

/-- A word of the opcode table that stands for a well-formed instruction's encoding decodes to that instruction. -/
theorem decodeTableWord_of_encode {nbits w : Nat} {i : Instr} (hwf : i.wellFormed = true)
    (h : tableItem nbits w = encode i) : decodeTableWord nbits w = some i := by
  rw [decodeTableWord, h, decodeEncodeRoundTrip i hwf]

/-- Settles O6: each word stands for its instruction's encoding (`decodeTableWord_of_encode`). -/
theorem decodeKnownWords : Obligations.DecodeKnownWords := by
  refine ⟨?_, ?_, ?_, ?_, ?_, ?_, ?_, ?_⟩ <;> exact decodeTableWord_of_encode rfl rfl

/-! ### Clock cycles -/

/-- The cycle with some of its strobes taken away (rule R115). -/
def clearStrobes (c : Cycle) (taken : BitVec 5) : Cycle := { c with ctl := c.ctl &&& ~~~taken }

/-- What stays in line stands for the given events: nothing for none, else one cycle (log entry 3). -/
def LeavesEvents (left : List Item) (es : List Instr) : Prop :=
  (es = [] ∧ left = []) ∨ ∃ c' : Cycle, left = [.cycle c'] ∧ eventsOf c' = es

/-- What is left of a cycle stands for the events of its other strobes (rule R115). -/
theorem leavesEvents_without (c : Cycle) (taken : BitVec 5) :
    LeavesEvents (c.without taken).toList (eventsOf (clearStrobes c taken)) := by
  unfold Cycle.without
  split
  · next hnone => exact .inl ⟨by simp [eventsOf, clearStrobes, hnone], rfl⟩
  · exact .inr ⟨clearStrobes c taken, rfl, rfl⟩

/-- The decoder and `eventsOf` agree on every cycle: no event, `rst` alone, or a first event whose strobes are taken away for
the others (rules R113 to R115). -/
theorem decodeCycle_cases (c : Cycle) :
    eventsOf c = [] ∨ (decodeCycle c = .ok (.reset, none) ∧ eventsOf c = [.reset]) ∨
      ∃ e taken, decodeCycle c = .ok (e, c.without taken) ∧ eventsOf c = e :: eventsOf (clearStrobes c taken) := by
  cases hrst : c.ctl[4]
  case true => exact .inr (.inl (by simp [decodeCycle, eventsOf, hrst]))
  cases hwr : c.ctl[3] <;> cases hrd : c.ctl[2]
  case false.false =>
    cases hdone : c.ctl[1]
    case true =>
      exact .inr (.inr ⟨.txDone, 0b00010, by simp [decodeCycle, eventsOf, clearStrobes, hrst, hwr, hrd, hdone]⟩)
    cases hvalid : c.ctl[0]
    case true =>
      exact .inr (.inr ⟨.sample c.sIdx c.sI c.sQ, 0b00001,
        by simp [decodeCycle, eventsOf, clearStrobes, hrst, hwr, hrd, hdone, hvalid]⟩)
    exact .inl (by simp [eventsOf, hrst, hwr, hrd, hdone, hvalid])
  case false.true =>
    exact .inr (.inr ⟨.busRead c.addr, 0b00100, by simp [decodeCycle, eventsOf, clearStrobes, hrst, hwr, hrd]⟩)
  case true.false =>
    exact .inr (.inr ⟨decodeHostWrite c.addr c.wdata, 0b01000,
      by simp [decodeCycle, eventsOf, clearStrobes, hrst, hwr, hrd]⟩)
  case true.true =>
    exact .inr (.inr ⟨.busWriteRead c.addr c.wdata, 0b01100,
      by simp [decodeCycle, eventsOf, clearStrobes, hrst, hwr, hrd]⟩)

/-- The decoder takes the first event of a cycle and leaves the others. -/
theorem decodeCycle_of_eventsOf {c : Cycle} {e : Instr} {es : List Instr} (h : eventsOf c = e :: es) :
    ∃ left : Option Item, decodeCycle c = .ok (e, left) ∧ LeavesEvents left.toList es := by
  rcases decodeCycle_cases c with hnone | ⟨hdec, hevents⟩ | ⟨e', taken, hdec, hevents⟩
  · simp [hnone] at h
  · obtain ⟨rfl, rfl⟩ := List.cons.inj (hevents.symm.trans h)
    exact ⟨none, hdec, .inl ⟨rfl, rfl⟩⟩
  · obtain ⟨rfl, rfl⟩ := List.cons.inj (hevents.symm.trans h)
    exact ⟨_, hdec, leavesEvents_without c taken⟩

/-- Settles O3: a step runs the event that the decoder takes first (`decodeCycle_of_eventsOf`). -/
theorem cycleEventsInOrder : Obligations.CycleEventsInOrder := by
  intro c e es h
  obtain ⟨left, hdec, hleft⟩ := decodeCycle_of_eventsOf h
  exact ⟨left.toList, fun s rest hin => stepRunsDecodedInstruction s (.cycle c) rest e left hin hdec, hleft⟩

/-! ### Command bits are their Command's encoding -/

/-- A field within a sequence is below two to its width. -/
theorem fieldAt_lt (l : List Bool) (k n : Nat) : fieldAt l k n < 2 ^ n :=
  (msbFirst_lt _).trans_le (Nat.pow_le_pow_right (by omega) (List.length_take_le n (l.drop k)))

/-- A word holds a field of at most its width. -/
theorem toNat_ofNat_fieldAt (l : List Bool) (k : Nat) {n w : Nat} (h : n ≤ w) :
    (BitVec.ofNat w (fieldAt l k n)).toNat = fieldAt l k n := by
  rw [BitVec.toNat_ofNat, Nat.mod_eq_of_lt ((fieldAt_lt l k n).trans_le (Nat.pow_le_pow_right (by omega) h))]

/-- A sequence continues, from any position, with the bits of the field that stands there. -/
theorem drop_eq_bitsOf_fieldAt (l : List Bool) (k n : Nat) (h : k + n ≤ l.length) :
    l.drop k = bitsOf n (fieldAt l k n) ++ l.drop (k + n) := by
  have hlen : ((l.drop k).take n).length = n := by
    rw [List.length_take, List.length_drop]
    omega
  have hbits := bitsOf_msbFirst ((l.drop k).take n)
  rw [hlen] at hbits
  rw [fieldAt, hbits, ← List.drop_drop, List.take_append_drop]

/-- A sequence ends with the bits of its last field. -/
theorem drop_eq_bitsOf_fieldAt_last (l : List Bool) (k n : Nat) (h : k + n = l.length) :
    l.drop k = bitsOf n (fieldAt l k n) := by
  rw [drop_eq_bitsOf_fieldAt l k n h.le, h, List.drop_length, List.append_nil]

/-- A sequence begins with the bits of its first field. -/
theorem eq_bitsOf_fieldAt (l : List Bool) (n : Nat) (h : n ≤ l.length) : l = bitsOf n (fieldAt l 0 n) ++ l.drop n := by
  simpa using drop_eq_bitsOf_fieldAt l 0 n (by omega)

/-- A `QUERY` that decodes is cut into its fields without a rest, and the three bits it drops are 0 (rule R134). -/
theorem bits_of_decodeQuery {r : List Bool} {i : Instr} (h : decodeQuery r = .ok i) :
    encode i = .command (true :: false :: false :: false :: r) ∧ i.wellFormed = true := by
  unfold decodeQuery at h
  split at h
  · cases h
  next hne =>
  split at h
  · cases h
  next hfixed =>
  obtain rfl := Except.ok.inj h
  refine ⟨congrArg Item.command ?_, rfl⟩
  have hlen : r.length = 18 := not_not.1 hne
  have hr : r = bitsOf 1 (fieldAt r 0 1) ++ (bitsOf 3 (fieldAt r 1 3) ++ (bitsOf 2 (fieldAt r 4 2) ++
      (bitsOf 2 (fieldAt r 6 2) ++ (bitsOf 1 (fieldAt r 8 1) ++ (bitsOf 4 (fieldAt r 9 4) ++
        bitsOf 5 (fieldAt r 13 5)))))) := by
    rw [← drop_eq_bitsOf_fieldAt_last r 13 5 (by omega), ← drop_eq_bitsOf_fieldAt r 9 4 (by omega),
      ← drop_eq_bitsOf_fieldAt r 8 1 (by omega), ← drop_eq_bitsOf_fieldAt r 6 2 (by omega),
      ← drop_eq_bitsOf_fieldAt r 4 2 (by omega), ← drop_eq_bitsOf_fieldAt r 1 3 (by omega),
      ← eq_bitsOf_fieldAt r 1 (by omega)]
  rw [not_not.1 hfixed] at hr
  simp only [queryBits, toNat_ofNat_fieldAt _ _ le_rfl]
  exact congrArg (true :: false :: false :: false :: ·) hr.symm

/-- A `SELECT` that decodes is cut into its fields without a rest, the one bit it drops is 0, and the mask lies below two to
the Length field (rule R138). -/
theorem bits_of_decodeSelect {r : List Bool} {i : Instr} (h : decodeSelect r = .ok i) :
    encode i = .command (true :: false :: true :: false :: r) ∧ i.wellFormed = true := by
  unfold decodeSelect at h
  dsimp only at h
  generalize hL : fieldAt r 16 8 = len at h
  split at h
  · cases h
  split at h
  · cases h
  next hfixed =>
  split at h
  · cases h
  next hne =>
  obtain rfl := Except.ok.inj h
  obtain ⟨hebv, hle⟩ : fieldAt r 8 1 = 0 ∧ len ≤ 32 := by
    simpa only [not_or, not_not, Nat.not_lt] using hfixed
  have hlen : r.length = 41 + len := not_not.1 hne
  have hlength : (BitVec.ofNat 6 len).toNat = len := by
    rw [BitVec.toNat_ofNat, Nat.mod_eq_of_lt (by omega)]
  have hr : r = bitsOf 3 (fieldAt r 0 3) ++ (bitsOf 3 (fieldAt r 3 3) ++ (bitsOf 2 (fieldAt r 6 2) ++
      (bitsOf 1 (fieldAt r 8 1) ++ (bitsOf 7 (fieldAt r 9 7) ++ (bitsOf 8 (fieldAt r 16 8) ++
        (bitsOf len (fieldAt r 24 len) ++ (bitsOf 1 (fieldAt r (24 + len) 1) ++
          bitsOf 16 (fieldAt r (25 + len) 16)))))))) := by
    rw [← drop_eq_bitsOf_fieldAt_last r (25 + len) 16 (by omega), show 25 + len = 24 + len + 1 by omega,
      ← drop_eq_bitsOf_fieldAt r (24 + len) 1 (by omega), ← drop_eq_bitsOf_fieldAt r 24 len (by omega),
      ← drop_eq_bitsOf_fieldAt r 16 8 (by omega), ← drop_eq_bitsOf_fieldAt r 9 7 (by omega),
      ← drop_eq_bitsOf_fieldAt r 8 1 (by omega), ← drop_eq_bitsOf_fieldAt r 6 2 (by omega),
      ← drop_eq_bitsOf_fieldAt r 3 3 (by omega), ← eq_bitsOf_fieldAt r 3 (by omega)]
  refine ⟨congrArg Item.command ?_, ?_⟩
  · simp only [selectBits, selectBody, toNat_ofNat_fieldAt _ _ le_rfl, hlength, toNat_ofNat_fieldAt r 24 hle,
      bitsOf_succ_of_lt (fieldAt_lt r 9 7)]
    rw [hebv, hL] at hr
    conv_rhs => rw [hr]
    simp [bitsOf_zero]
  · simp only [Instr.wellFormed, hlength, toNat_ofNat_fieldAt r 24 hle, hle, fieldAt_lt, decide_true, Bool.and_true]

/-- Settles O5: Command by Command, the bits after the opcode are those of the fields read from them. -/
theorem commandDecodingIsExact : Obligations.CommandDecodingIsExact := by
  intro bits i h
  unfold decodeCommand at h
  split at h
  case h_1 r =>
    split at h <;> cases h
    next hlen =>
    refine ⟨congrArg Item.command ?_, rfl⟩
    rw [queryRepBits, toNat_ofNat_fieldAt _ _ le_rfl, ← drop_eq_bitsOf_fieldAt_last r 0 2 (by omega)]
    rfl
  case h_2 r =>
    split at h <;> cases h
    next hlen =>
    refine ⟨congrArg Item.command ?_, rfl⟩
    rw [ackBits, toNat_ofNat_fieldAt _ _ le_rfl, ← drop_eq_bitsOf_fieldAt_last r 0 16 (by omega)]
    rfl
  case h_3 r => exact bits_of_decodeQuery h
  case h_4 r =>
    split at h <;> cases h
    next hlen =>
    refine ⟨congrArg Item.command ?_, rfl⟩
    rw [queryAdjustBits, toNat_ofNat_fieldAt _ _ le_rfl, toNat_ofNat_fieldAt _ _ le_rfl, List.append_assoc,
      ← drop_eq_bitsOf_fieldAt_last r 2 3 (by omega), ← eq_bitsOf_fieldAt r 2 (by omega)]
    rfl
  case h_5 r => exact bits_of_decodeSelect h
  case h_6 => cases h

end Sys2Proof.Machine
end

section
/-! PROOFS. The `QUERY` (rules R134, R241, R242, R246): its word, and that its instruction is the Reader's emission of it. -/

namespace Sys2Proof.Machine

section
variable (dr : BitVec 1) (sel session : BitVec 2) (target : BitVec 1) (q : BitVec 4) (crc : BitVec 5)

theorem queryBits_length : (queryBits dr sel session target q crc).length = 22 := rfl

theorem msbFirst_queryBits :
    msbFirst (queryBits dr sel session target q crc) = (queryWord dr sel session target q crc).toNat := by
  rw [queryWord, BitVec.toNat_setWidth, Nat.mod_eq_of_lt (by omega)]
  simp only [queryBits, msbFirst_append, msbFirst_bitsOf, bitsOf_length, toNat_append_eq_add,
    show msbFirst [true, false, false, false] = 8 from rfl, show msbFirst [false, false, false] = 0 from rfl,
    Nat.mod_eq_of_lt dr.isLt, Nat.mod_eq_of_lt sel.isLt, Nat.mod_eq_of_lt session.isLt, Nat.mod_eq_of_lt target.isLt,
    Nat.mod_eq_of_lt q.isLt, Nat.mod_eq_of_lt crc.isLt, BitVec.toNat_ofNat, List.length_cons, List.length_nil]
  ring

/-- The bits of a `QUERY` are its word (rule R134). -/
theorem ofNat_queryBits :
    BitVec.ofNat 128 (msbFirst (queryBits dr sel session target q crc)) = queryWord dr sel session target q crc := by
  rw [msbFirst_queryBits, BitVec.ofNat_toNat, BitVec.setWidth_eq]

/-- The 17 bits before the CRC are the upper bits of the word (rule R134). -/
theorem queryBits_take_eq_bitsOf :
    (queryBits dr sel session target q crc).take 17 =
      bitsOf 17 ((queryWord dr sel session target q crc).toNat / 2 ^ 5) := by
  have hword := msbFirst_append ((queryBits dr sel session target q crc).take 17)
    ((queryBits dr sel session target q crc).drop 17)
  have hcrc := msbFirst_lt ((queryBits dr sel session target q crc).drop 17)
  rw [List.take_append_drop, msbFirst_queryBits, List.length_drop, queryBits_length] at hword
  rw [List.length_drop, queryBits_length] at hcrc
  have hvalue : (queryWord dr sel session target q crc).toNat / 2 ^ 5 =
      msbFirst ((queryBits dr sel session target q crc).take 17) := by omega
  rw [hvalue]
  exact (bitsOf_msbFirst _).symm

end

/-- The `QUERY` that the configuration asks for, with its CRC-5 taken over the upper bits of its word (rules R134, R242). -/
theorem asksQuery_iff (c : Cfg) (dr : BitVec 1) (sel session : BitVec 2) (target : BitVec 1) (q : BitVec 4)
    (crc : BitVec 5) :
    c.asksQuery dr sel session target q crc = true ↔
      dr = c.qryCfg.extractLsb' 0 1 ∧ sel = c.qryCfg.extractLsb' 4 2 ∧ session = c.qryCfg.extractLsb' 6 2 ∧
      target = c.qryCfg.extractLsb' 8 1 ∧ q = c.rdrQ ∧
      crc = crc5 (bitsOf 17 ((queryWord dr sel session target q 0).toNat / 2 ^ 5)) := by
  rw [← queryBits_take_eq_bitsOf]
  simp only [Cfg.asksQuery, Bool.and_eq_true, beq_iff_eq, and_assoc]
  constructor <;> (rintro ⟨rfl, rfl, rfl, rfl, rfl, rfl⟩; exact ⟨rfl, rfl, rfl, rfl, rfl, rfl⟩)

/-- Settles O7: the two cases of a `QUERY` (`execQuery_cases`), with the word of its bits, and `asksQuery_iff` for the fields
that the configuration asks for. -/
theorem queryEmission : Obligations.QueryEmission := by
  intro dr sel session target q crc s opens asked
  rcases execQuery_cases s dr sel session target q crc with ⟨hopens, hasked, he⟩ | ⟨hnot, he⟩
  · refine ⟨fun _ _ => he.trans ?_, fun hn => absurd ⟨(opensRound_iff s).1 hopens, (asksQuery_iff ..).1 hasked⟩ hn⟩
    rw [← ofNat_queryBits]
    rfl
  · exact ⟨fun ho ha => absurd ⟨(opensRound_iff s).2 ho, (asksQuery_iff ..).2 ha⟩ hnot, fun _ => he⟩

end Sys2Proof.Machine
end

section
/-! PROOFS. Bus reads (rules R113, R291). -/

namespace Sys2Proof.Machine

/-- Settles O28: a read by its alignment (`misaligned_iff`); both strobes by the definition of their access. -/
theorem busReads : Obligations.BusReads := by
  refine ⟨fun addr s => ⟨fun halign => congrArg Host.Outcome.next ?_, fun hmis => congrArg Host.Outcome.next ?_⟩,
    fun addr data s => ⟨busWrite addr data s, rfl, rfl⟩⟩
  · rw [busRead, (misaligned_eq_false_iff addr).2 halign]
    rfl
  · rw [busRead, if_pos ((misaligned_iff addr).2 hmis)]
    rfl

end Sys2Proof.Machine
end

section
/-! PROOFS. The FM0 line code (rules R150, R151): the level inverts at every symbol boundary, and in mid-symbol exactly for a
0. -/

namespace Sys2Proof.Machine

/-- The first half of each symbol differs from the half-symbol before it, the first symbol's from the level `last`. -/
theorem fm0Body_boundary (last : Bool) (bits : List Bool) {k : Nat} (hk : k < bits.length) :
    (fm0Body last bits)[2 * k]? ≠ (last :: fm0Body last bits)[2 * k]? := by
  induction bits generalizing last k with
  | nil => simp at hk
  | cons b bits ih =>
    cases k with
    | zero => simp [fm0Body]
    | succ k => exact ih _ (Nat.lt_of_succ_lt_succ hk)

/-- The two halves of a symbol are equal exactly when its bit is 1. -/
theorem fm0Body_symbol (last : Bool) (bits : List Bool) {k : Nat} (hk : k < bits.length) :
    (fm0Body last bits)[2 * k]? = (fm0Body last bits)[2 * k + 1]? ↔ bits[k]? = some true := by
  induction bits generalizing last k with
  | nil => simp at hk
  | cons b bits ih =>
    cases k with
    | zero => cases b <;> simp [fm0Body]
    | succ k => exact ih _ (Nat.lt_of_succ_lt_succ hk)

/-- Behind the preamble stand the symbols. -/
theorem getElem?_fm0Halves (bits : List Bool) (k : Nat) :
    (fm0Halves bits)[12 + k]? = (fm0Body true (bits ++ [true]))[k]? := by
  rw [fm0Halves, List.getElem?_append_right (by simp [preamble])]
  simp [preamble]

/-- The preamble's last level, and behind it the symbols. -/
theorem getElem?_fm0Halves_before (bits : List Bool) (k : Nat) :
    (fm0Halves bits)[11 + k]? = (true :: fm0Body true (bits ++ [true]))[k]? := by
  cases k with
  | zero => rfl
  | succ k => rw [show 11 + (k + 1) = 12 + k by omega, getElem?_fm0Halves, List.getElem?_cons_succ]

/-- Settles O48: the length and the preamble from the definition; boundaries and symbols from the laws of the symbols behind the
preamble, whose last level is high. -/
theorem fm0LineCode : Obligations.Fm0LineCode := by
  intro bits
  have hlt {k : Nat} (hk : k ≤ bits.length) : k < (bits ++ [true]).length := by
    rw [List.length_append, List.length_singleton]
    omega
  refine ⟨by rw [fm0Halves_length]; omega, rfl, fun k hk => ?_, fun k hk => ?_⟩
  · rw [show 12 + 2 * k - 1 = 11 + 2 * k by omega, getElem?_fm0Halves, getElem?_fm0Halves_before]
    exact fm0Body_boundary true _ (hlt hk)
  · rw [Nat.add_assoc, getElem?_fm0Halves, getElem?_fm0Halves]
    exact fm0Body_symbol true _ (hlt hk)

end Sys2Proof.Machine
end

section
/-! PROOFS. The CRCs (rules R140, R141, R211): both are one recurrence with a polynomial of its own. It is linear over the
exclusive or and, for a polynomial with a constant term, loses no register, from which the residues follow and that a single
flipped bit is always seen. -/

namespace Sys2Proof.Machine

/-! ### One recurrence -/

/-- One bit of a CRC of width `w`: a shift, and the polynomial where the bit differs from the top bit (rules R140, R141). -/
def crcStep {w : Nat} (poly c : BitVec w) (b : Bool) : BitVec w :=
  c <<< 1 ^^^ (if c.getLsbD (w - 1) ^^ b then poly else 0)

section
variable {w : Nat} (poly : BitVec w)

/-- A bit equal to the register's top bit only shifts. -/
theorem crcStep_of_eq {c : BitVec w} {b : Bool} (h : c.getLsbD (w - 1) = b) : crcStep poly c b = c <<< 1 := by
  simp [crcStep, h]

/-- A bit that differs from the register's top bit adds the polynomial. -/
theorem crcStep_of_ne {c : BitVec w} {b : Bool} (h : c.getLsbD (w - 1) ≠ b) : crcStep poly c b = c <<< 1 ^^^ poly := by
  simp [crcStep, h]

theorem crcStep_eq_ite (c : BitVec w) (b : Bool) :
    crcStep poly c b = if c.getLsbD (w - 1) = b then c <<< 1 else c <<< 1 ^^^ poly := by
  split
  · exact crcStep_of_eq poly ‹_›
  · exact crcStep_of_ne poly ‹_›

/-- The recurrence is linear: the step of a sum is the sum of the steps. -/
theorem crcStep_xor (c d : BitVec w) (a b : Bool) :
    crcStep poly (c ^^^ d) (a ^^ b) = crcStep poly c a ^^^ crcStep poly d b := by
  have hfeed (x y : Bool) :
      (if x ^^ y then poly else 0) = (if x then poly else 0) ^^^ (if y then poly else 0) := by
    cases x <;> cases y <;> simp
  have htop : ((c ^^^ d).getLsbD (w - 1) ^^ (a ^^ b)) =
      ((c.getLsbD (w - 1) ^^ a) ^^ (d.getLsbD (w - 1) ^^ b)) := by
    rw [BitVec.getLsbD_xor]
    simp only [Bool.xor_assoc, Bool.xor_left_comm]
  rw [crcStep, htop, hfeed, BitVec.shiftLeft_xor_distrib, crcStep, crcStep]
  ac_rfl

/-- The recurrence over the sum of two bit sequences is the sum of the recurrences. -/
theorem foldl_crcStep_xor (c d : BitVec w) (l m : List Bool) (h : l.length = m.length) :
    (List.zipWith xor l m).foldl (crcStep poly) (c ^^^ d) = l.foldl (crcStep poly) c ^^^ m.foldl (crcStep poly) d := by
  induction l generalizing c d m with
  | nil =>
    cases m with
    | nil => rfl
    | cons b m => simp at h
  | cons a l ih =>
    cases m with
    | nil => simp at h
    | cons b m =>
      simp only [List.zipWith_cons_cons, List.foldl_cons, crcStep_xor]
      exact ih _ _ _ (Nat.succ.inj h)

/-- A register fed the `n` of its own bits that are still in it is shifted out. -/
theorem foldl_crcStep_ownBits_of_le (c : BitVec w) {n : Nat} (hn : n ≤ w) :
    (bitsOf n c.toNat).foldl (crcStep poly) (c <<< (w - n)) = 0 := by
  induction n with
  | zero => simp [bitsOf]
  | succ n ih =>
    have htop : (c <<< (w - (n + 1))).getLsbD (w - 1) = c.toNat.testBit n := by
      rw [BitVec.getLsbD_shiftLeft, BitVec.testBit_toNat, show w - 1 - (w - (n + 1)) = n by omega,
        decide_eq_true (show w - 1 < w by omega), decide_eq_false (show ¬ w - 1 < w - (n + 1) by omega)]
      rfl
    rw [bitsOf, List.foldl_cons, crcStep_of_eq poly htop, ← BitVec.shiftLeft_add,
      show w - (n + 1) + 1 = w - n by omega, ih (by omega)]

/-- A register fed its own bits is 0. -/
theorem foldl_crcStep_ownBits (c : BitVec w) : (bitsOf w c.toNat).foldl (crcStep poly) c = 0 := by
  simpa using foldl_crcStep_ownBits_of_le poly c le_rfl

/-- With a constant term in the polynomial no register is lost: the lowest bit of the next one tells the top bit, and the
others are shifted. -/
theorem crcStep_injective (hpoly : poly.getLsbD 0 = true) (b : Bool) :
    Function.Injective fun c : BitVec w => crcStep poly c b := by
  intro c d h
  have hlow (x : BitVec w) : (crcStep poly x b).getLsbD 0 = (x.getLsbD (w - 1) ^^ b) := by
    rw [crcStep, BitVec.getLsbD_xor, BitVec.getLsbD_shiftLeft]
    cases x.getLsbD (w - 1) ^^ b <;> simp [hpoly]
  have htop : c.getLsbD (w - 1) = d.getLsbD (w - 1) := by
    have hbit := congrArg (BitVec.getLsbD · 0) h
    simpa [hlow] using hbit
  have hshift : c <<< 1 = d <<< 1 := by
    simpa only [crcStep, htop, BitVec.xor_left_inj] using h
  refine BitVec.eq_of_getLsbD_eq fun k hk => ?_
  by_cases hlast : k = w - 1
  · rw [hlast, htop]
  · have hnext (x : BitVec w) : (x <<< 1).getLsbD (k + 1) = x.getLsbD k := by
      simp [hk, show k + 1 < w by omega]
    rw [← hnext c, hshift, hnext]

/-- The two bits that can follow leave different registers. -/
theorem crcStep_not_ne (hpoly : poly ≠ 0) (c : BitVec w) (b : Bool) : crcStep poly c (!b) ≠ crcStep poly c b := by
  have hsum : crcStep poly c (!b) = crcStep poly c b ^^^ poly := by
    rw [crcStep, crcStep, BitVec.xor_assoc]
    cases c.getLsbD (w - 1) <;> cases b <;> simp
  intro h
  rw [hsum] at h
  exact hpoly (by simpa using h)

/-- Registers that differ stay different over any bits. -/
theorem foldl_crcStep_injective (hpoly : poly.getLsbD 0 = true) (l : List Bool) :
    Function.Injective fun c : BitVec w => l.foldl (crcStep poly) c := by
  induction l with
  | nil => exact fun _ _ h => h
  | cons b l ih => exact ih.comp (crcStep_injective poly hpoly b)

/-- A single flipped bit leaves a different register. -/
theorem foldl_crcStep_modify_ne (hpoly : poly.getLsbD 0 = true) (c : BitVec w) (l : List Bool) {k : Nat}
    (hk : k < l.length) : (l.modify k (!·)).foldl (crcStep poly) c ≠ l.foldl (crcStep poly) c := by
  induction l generalizing c k with
  | nil => simp at hk
  | cons b l ih =>
    cases k with
    | zero =>
      have hzero : poly ≠ 0 := by
        rintro rfl
        simp at hpoly
      exact fun h => crcStep_not_ne poly hzero c b (foldl_crcStep_injective poly hpoly l h)
    | succ k => exact ih _ (Nat.lt_of_succ_lt_succ hk)

end

theorem crc5Step_eq : crc5Step = crcStep 0b01001 := by
  funext c b
  rw [crcStep, crc5Step]
  split <;> simp

theorem crc16Step_eq : crc16Step = crcStep 0x1021 := by
  funext c b
  rw [crcStep, crc16Step]
  split <;> simp

/-! ### Residues -/

/-- The bits of a sum are the sums of the bits. -/
theorem bitsOf_xor (n a b : Nat) : bitsOf n (a ^^^ b) = List.zipWith xor (bitsOf n a) (bitsOf n b) := by
  induction n with
  | zero => rfl
  | succ n ih => simp [bitsOf, ih]

/-- A message followed by its CRC-5 leaves 0 (rule R140). -/
theorem crc5_append_crc5 (bits : List Bool) : crc5 (bits ++ bitsOf 5 (crc5 bits).toNat) = 0 := by
  rw [crc5, List.foldl_append, ← crc5, crc5Step_eq, foldl_crcStep_ownBits]

/-- A message followed by its CRC-16 leaves 0x1D0F: the inversion's share, since the register itself is shifted out (rule
R141). -/
theorem crc16Register_append_crc16 (bits : List Bool) :
    crc16Register (bits ++ bitsOf 16 (crc16 bits).toNat) = 0x1D0F := by
  have hinversion : (bitsOf 16 (0xFFFF#16).toNat).foldl (crcStep 0x1021) 0 = 0x1D0F#16 := by decide
  rw [crc16Register, List.foldl_append, ← crc16Register, crc16, BitVec.toNat_xor, bitsOf_xor, crc16Step_eq]
  have hsum := foldl_crcStep_xor 0x1021 (crc16Register bits) 0 (bitsOf 16 (crc16Register bits).toNat)
    (bitsOf 16 (0xFFFF#16).toNat) (by simp)
  rw [foldl_crcStep_ownBits, hinversion] at hsum
  simpa using hsum

/-- Settles O44: the recurrences by `crcStep_eq_ite`, the residues from the shifting out of the register's own bits, the check
values by evaluation. -/
theorem crcResidue : Obligations.CrcResidue := by
  refine ⟨rfl, fun bits b => ?_, crc5_append_crc5, by decide +kernel, rfl, fun bits b => ?_, fun _ => rfl,
    crc16Register_append_crc16, by decide +kernel⟩
  · rw [crc5, List.foldl_concat, ← crc5, crc5Step_eq, crcStep_eq_ite]
  · rw [crc16Register, List.foldl_concat, ← crc16Register, crc16Step_eq, crcStep_eq_ite]

/-! ### A flipped bit -/

/-- An identifier reply is valid exactly when its last 16 bits are the CRC-16 of the others (rules R209, R211). -/
theorem idResult_valid_iff {x : List Bool} (t : Nat) (hx : x.length = 128) :
    (idResult x t).valid = true ↔ crc16 (x.take 112) = BitVec.ofNat 16 (msbFirst (x.drop 112)) := by
  have hlen : (x.drop 112).length = 16 := by rw [List.length_drop, hx]
  rw [idResult, beq_iff_eq, fieldAt, List.take_of_length_le hlen.le]

/-- A valid identifier reply leaves the residue 0x1D0F (rules R141, R209). -/
theorem crc16Register_of_valid {x : List Bool} {t : Nat} (hx : x.length = 128) (h : (idResult x t).valid = true) :
    crc16Register x = 0x1D0F := by
  have hlen : (x.drop 112).length = 16 := by rw [List.length_drop, hx]
  have hcheck : bitsOf 16 (crc16 (x.take 112)).toNat = x.drop 112 := by
    rw [(idResult_valid_iff t hx).1 h, BitVec.toNat_ofNat, ← hlen, Nat.mod_eq_of_lt (msbFirst_lt _), bitsOf_msbFirst]
  rw [← List.take_append_drop 112 x, ← hcheck, crc16Register_append_crc16]

/-- Settles O43: the reply and the one with a flipped bit leave different registers (`foldl_crcStep_modify_ne`), so they cannot
both leave the residue of a valid one. -/
theorem crcDetectsSingleBitFlip : Obligations.CrcDetectsSingleBitFlip := by
  intro x k t hx hk hcrc
  have hvalid : (idResult x t).valid = true := (idResult_valid_iff t hx).2 hcrc
  refine ⟨hvalid, Bool.eq_false_iff.2 fun hflipped => ?_⟩
  have hne := foldl_crcStep_modify_ne (0x1021 : BitVec 16) rfl 0xFFFF x (hx.symm ▸ hk)
  rw [← crc16Step_eq] at hne
  exact hne ((crc16Register_of_valid (by rw [List.length_modify, hx]) hflipped).trans
    (crc16Register_of_valid hx hvalid).symm)

end Sys2Proof.Machine
end

section
/-! PROOFS. The samples that close no frame (rules R170 to R173, R178, R179, R255), and the bounds of the frames that do get
emitted (rule R181): a sample while stopped, a discontinuous sample, a quiet sample at an idle Gate, one that opens a frame
and one that lengthens it. -/

namespace Sys2Proof.Machine

variable {s : State} {idx : BitVec 32} {i q : BitVec 16}

/-! ### Energy and noise floor -/

theorem energy_eq (i q : BitVec 16) : (energy i q : Int) = i.toInt * i.toInt + q.toInt * q.toInt :=
  Int.toNat_of_nonneg (add_nonneg (mul_self_nonneg _) (mul_self_nonneg _))

/-- A 16-bit component's square is at most `2^30`, reached by -32768. -/
theorem mul_self_toInt_le (i : BitVec 16) : i.toInt * i.toInt ≤ 2 ^ 30 := by
  have hlo : -2 ^ 15 ≤ i.toInt := BitVec.le_toInt i
  have hhi : i.toInt < 2 ^ 15 := BitVec.toInt_lt
  nlinarith only [hlo, hhi]

/-- Every energy fits a 32-bit register (rule R170). -/
theorem energy_lt (i q : BitVec 16) : energy i q < 2 ^ 32 := by
  have he := energy_eq i q
  have hi := mul_self_toInt_le i
  have hq := mul_self_toInt_le q
  omega

/-- The floored fraction of a difference lies between 0 and the difference, whatever its sign. -/
theorem floor_fraction_between (d : Int) (k : Nat) : min 0 d ≤ d / 2 ^ k ∧ d / 2 ^ k ≤ max 0 d := by
  have hpos : (0 : Int) < 2 ^ k := by positivity
  rcases le_total 0 d with hd | hd
  · rw [min_eq_left hd, max_eq_right hd]
    exact ⟨Int.ediv_nonneg hd hpos.le, Int.ediv_le_self _ hd⟩
  · rw [min_eq_right hd, max_eq_left hd]
    have hle : d * 2 ^ k ≤ d := by nlinarith only [hd, hpos]
    exact ⟨(Int.le_ediv_iff_mul_le hpos).2 hle, Int.ediv_nonpos_of_nonpos_of_neg hd hpos⟩

/-- The noise floor moves by the floored fraction and does not wrap, because the fraction stays between it and the energy
(rule R173). -/
theorem toNat_nfUpdate (nf : BitVec 32) (shift : BitVec 5) {en : Nat} (hen : en < 2 ^ 32) :
    ((nfUpdate nf shift en).toNat : Int) = nf.toNat + ((en : Int) - nf.toNat) / 2 ^ shift.toNat := by
  obtain ⟨hlo, hhi⟩ := floor_fraction_between ((en : Int) - nf.toNat) shift.toNat
  have hnf := nf.isLt
  rw [nfUpdate, BitVec.toNat_ofInt, Nat.cast_pow, Nat.cast_ofNat, Int.emod_eq_of_lt, Int.toNat_of_nonneg] <;> omega

/-- The new noise floor lies between the old one and the energy (rule R173). -/
theorem nfUpdate_between (nf : BitVec 32) (shift : BitVec 5) {en : Nat} (hen : en < 2 ^ 32) :
    min nf.toNat en ≤ (nfUpdate nf shift en).toNat ∧ (nfUpdate nf shift en).toNat ≤ max nf.toNat en := by
  have hnf := toNat_nfUpdate nf shift hen
  obtain ⟨hlo, hhi⟩ := floor_fraction_between ((en : Int) - nf.toNat) shift.toNat
  omega

/-! ### The parts of a sample step -/

/-- A consecutive sample of a running block with an idle Gate is in range in every state (rule R170). -/
theorem sampleStep_of_idle (hrun : s.rdr.rstate ≠ .done) (hg : s.gate.gstate = .idle)
    (hidx : s.haveLast = true → idx = s.lastIdx + 1) :
    sampleStep idx i q s = .next (afterGate (gateStep idx ⟨i, q⟩ (noted idx s))) := by
  have hfb : fbInRange (noted idx s) = true := by simp [fbInRange, noted, hg]
  rw [sampleStep, if_neg hrun, noteIndex_of_continues hidx]
  exact if_pos hfb

/-- After a sample that leaves a frame open, a listening block's slot timer has counted it, without a timeout (rule R255). -/
theorem afterGate_open {u : State} (hu : u.gate.gstate = .inFrame) :
    afterGate (u, none) = { u with rdr := { u.rdr with
      tWait := if listening u then BitVec.ofNat 32 (sat32 (u.rdr.tWait.toNat + 1)) else u.rdr.tWait } } := by
  cases hl : listening u with
  | true => exact (afterGate_listening hl).trans (slotTick_of_inFrame hu)
  | false => exact afterGate_none hl

/-- The slot timer's value after a tick, saturated (rules R8, R255). -/
theorem ticked_tWait (s : State) : (ticked s).rdr.tWait.toNat = sat32 (s.rdr.tWait.toNat + 1) := by
  simp only [ticked, sat32, BitVec.toNat_ofNat]
  omega

/-- The state in which a quiet sample has been noted and has moved the noise floor (rules R170, R173). -/
def quieted (idx : BitVec 32) (x : Sample) (s : State) : State :=
  { noted idx s with gate := { s.gate with nf := nfUpdate s.gate.nf s.cfg.nfShift (energy x.i x.q) } }

/-- A quiet sample at an idle Gate leaves the rest to the Reader's part of the step (rules R170, R173). -/
theorem sampleStep_quiet (hrun : s.rdr.rstate ≠ .done) (hg : s.gate.gstate = .idle)
    (hidx : s.haveLast = true → idx = s.lastIdx + 1) (hquiet : energy i q ≤ thrOn s) :
    sampleStep idx i q s = .next (afterGate (quieted idx ⟨i, q⟩ s, none)) := by
  rw [sampleStep_of_idle hrun hg hidx, gateStep_quiet (noted idx s) idx ⟨i, q⟩ hg (Nat.not_lt.2 hquiet)]
  rfl

/-- A running block's sample step depends on the state only through the noted index. -/
theorem sampleStep_congr {t : State} (hs : s.rdr.rstate ≠ .done) (ht : t.rdr.rstate ≠ .done)
    (h : noteIndex idx s = noteIndex idx t) : sampleStep idx i q s = sampleStep idx i q t := by
  rw [sampleStep, sampleStep, if_neg hs, if_neg ht, h]

/-! ### The frames a sample emits -/

/-- A validated configuration leaves room for a frame that has just opened (rule R294). -/
theorem one_ne_maxLen {p : Params} {c : Cfg} (h : validate p c = 0) : 1#16 ≠ c.maxLen := by
  obtain ⟨-, -, -, -, -, hsph, hmax, -⟩ := validate_bounds p c h
  bv_omega

/-- A close emits only a frame of at least `MIN_LEN` samples, with the open frame's kind and start (rules R176, R177). -/
theorem closeFrame_eq_some {len : BitVec 16} {forced : Bool} {f : Frame} (h : (closeFrame len forced s).2 = some f) :
    s.cfg.minLen.toNat ≤ len.toNat ∧ f = closingFrame s len forced := by
  rw [closeFrame_frame] at h
  split at h
  · cases h
  · exact ⟨Nat.not_lt.1 ‹_›, (Option.some.inj h).symm⟩

/-- An open frame that takes a sample would be emitted with the kind and the start it has. -/
theorem closingFrame_extend (s : State) (x : Sample) (en : Nat) (len : BitVec 16) (forced : Bool) :
    closingFrame (extendFrame x en s) len forced = closingFrame s len forced := by
  obtain ⟨-, hkind, hstart, -⟩ := extendFrame_gate_keeps s x en
  rw [closingFrame, hkind, hstart, closingFrame]

/-- In a good state a sample emits a frame in two ways only: a fall closes the open frame at its last high, or the sample
fills it up to `MAX_LEN`; a frame is not opened and closed at once, because `MAX_LEN` exceeds 1 (rules R173 to R177). -/
theorem gateStep_emits (h : Inv s) (hrun : s.rdr.rstate ≠ .done) {x : Sample} {f : Frame}
    (hf : (gateStep idx x s).2 = some f) :
    (gateStep idx x s).1.gate.gstate = .idle ∧ s.cfg.minLen.toNat ≤ f.len.toNat ∧
      ((s.gate.gLastHi.toNat < s.cfg.maxLen.toNat ∧ f = closingFrame s s.gate.gLastHi false) ∨
        f = closingFrame s s.cfg.maxLen true) := by
  rcases h.goodGate with hg | ⟨hg, -, -, -, hlen, -, hhi⟩
  · by_cases hrise : thrOn s < energy x.i x.q
    · rw [gateStep_opens hg hrise (one_ne_maxLen (h.configured hrun))] at hf
      cases hf
    · rw [gateStep_quiet s idx x hg hrise] at hf
      cases hf
  · refine ⟨((gateResult_gateStep h hrun idx x).2 f hf).1, ?_⟩
    rw [gateStep_inFrame s idx x hg] at hf
    dsimp only at hf
    split at hf
    · rename_i hhold
      have hfall := (extendFrame_gBelow_eq_hold h hrun hg x).1 hhold
      rw [extendFrame_gLastHi hfall] at hf
      obtain ⟨hmin, rfl⟩ := closeFrame_eq_some hf
      exact ⟨hmin, .inl ⟨by omega, closingFrame_extend ..⟩⟩
    · split at hf
      · rename_i hfull
        rw [hfull] at hf
        obtain ⟨hmin, rfl⟩ := closeFrame_eq_some hf
        exact ⟨hmin, .inr (closingFrame_extend ..)⟩
      · cases hf

/-! ### The statements -/

/-- Settles O35, by `sampleStep_quiet` and the arithmetic of the floored fraction (`toNat_nfUpdate`, `nfUpdate_between`). -/
theorem noiseFloorUpdate : Obligations.NoiseFloorUpdate := by
  refine ⟨energy_eq, fun idx i q s hrun hl hg hidx hquiet => ?_⟩
  have hen := energy_lt i q
  have hstep := sampleStep_quiet hrun hg hidx hquiet
  rw [afterGate_none (u := quieted idx ⟨i, q⟩ s) hl] at hstep
  exact ⟨_, hstep, toNat_nfUpdate _ _ hen, nfUpdate_between _ _ hen⟩

/-- Settles O36: the Gate opens a frame, which a validated `MAX_LEN` leaves open (`gateStep_opens`), so the slot timer only
counts (`afterGate_open`). -/
theorem frameOpensOnRise : Obligations.FrameOpensOnRise := by
  intro idx i q s hrun hmem hg hidx hvalid hrise
  have hstep := sampleStep_of_idle (i := i) (q := q) hrun hg hidx
  rw [gateStep_opens (s := noted idx s) (x := ⟨i, q⟩) hg hrise (one_ne_maxLen hvalid), afterGate_open rfl] at hstep
  exact ⟨_, hstep, Memory.readFb_writeFb s.mem hmem 0 _, fun _ => rfl, fun _ => rfl⟩

/-- Settles O37: the sample neither completes a fall (`extendFrame_gBelow_eq_hold`) nor fills the frame, so the frame grows
(`gateStep_extends`) and the slot timer only counts (`afterGate_open`). -/
theorem frameGrows : Obligations.FrameGrows := by
  intro idx i q s h hmem hrun hg hidx hroom thr hgrows
  have hn : Inv (noted idx s) := h.congr rfl rfl rfl rfl
  have hfalls : ¬ Falls (noted idx s) ⟨i, q⟩ := fun ⟨hbelow, hhold⟩ =>
    hgrows.elim (Nat.not_le.2 hbelow) hhold.not_lt
  have hnofall := mt (extendFrame_gBelow_eq_hold hn hrun hg ⟨i, q⟩).1 hfalls
  have hnofull : s.gate.gLen + 1 ≠ s.cfg.maxLen := by bv_omega
  obtain ⟨hopen, -⟩ := extendFrame_gate_keeps (noted idx s) ⟨i, q⟩ (energy i q)
  have hstep := sampleStep_of_continues h hrun hidx i q
  rw [gateStep_extends (s := noted idx s) hg hnofall hnofull, afterGate_open (hopen.trans hg)] at hstep
  exact ⟨_, hstep, Memory.readFb_writeFb s.mem hmem _ _, fun _ => rfl, fun _ => rfl⟩

/-- Settles O39, from the two ways a frame is emitted (`gateStep_emits`). -/
theorem emittedFrameBounds : Obligations.EmittedFrameBounds := by
  intro idx x s f h hrun hf
  obtain ⟨hidle, hmin, ⟨hhi, rfl⟩ | rfl⟩ := gateStep_emits h hrun hf
  · exact ⟨hmin, hhi.le, fun hforced => absurd hforced Bool.false_ne_true, rfl, rfl, hidle⟩
  · exact ⟨hmin, le_rfl, fun _ => rfl, rfl, rfl, hidle⟩

/-- Settles O40: both states have noted the index as one state, the first after a discontinuity (`discontCheck_cases`), the
second as the first index of a run (`noteIndex_of_continues`). -/
theorem discontinuityResynchronises : Obligations.DiscontinuityResynchronises := by
  intro idx i q s hrun hlast hne
  have hfirst {t : State} (ht : t.haveLast = false) : noteIndex idx t = noted idx t :=
    noteIndex_of_continues fun hnew => by simp [ht] at hnew
  refine sampleStep_congr hrun hrun (Eq.trans ?_ (hfirst rfl).symm)
  rcases discontCheck_cases s idx with ⟨hnot, -⟩ | ⟨-, -, hg, he⟩ | ⟨-, -, hg, he⟩
  · exact absurd ⟨hlast, hne⟩ hnot
  · rw [noteIndex, he, if_pos hg]
    rfl
  · rw [noteIndex, he, if_neg hg]
    rfl

/-- Settles O41: a quiet sample moves the noise floor (`sampleStep_quiet`), and the Reader's part of the step is the slot
timer of a block with an idle Gate (`slotTick_idle`). -/
theorem slotTimer : Obligations.SlotTimer := by
  intro idx i q s hl hg hidx hquiet
  have hstep : exec (.sample idx i q) s = .next (slotTick (quieted idx ⟨i, q⟩ s)) :=
    (sampleStep_quiet (running_of_listening hl) hg hidx hquiet).trans (congrArg _ (afterGate_listening hl))
  obtain ⟨hearly, hlate⟩ := slotTick_idle (u := quieted idx ⟨i, q⟩ s) hl hg
  refine ⟨ticked (quieted idx ⟨i, q⟩ s), rfl, ticked_tWait _, toNat_nfUpdate _ _ (energy_lt i q),
    fun ht => hstep.trans (congrArg _ (hearly ht)), fun ht hr => ?_, fun ht hr => ?_⟩
  · have hne : (quieted idx ⟨i, q⟩ s).rdr.rstate ≠ .ackSequence := fun he => by cases hr.symm.trans he
    rw [hstep, hlate ht, if_neg hne]
    rfl
  · have he : (quieted idx ⟨i, q⟩ s).rdr.rstate = .ackSequence := hr
    rw [hstep, hlate ht, if_pos he]
    rfl

/-- Settles O33: a stopped block's sample step answers the state it was given (rule R171). -/
theorem sampleWhileStopped : Obligations.SampleWhileStopped :=
  fun _ _ _ _ hdone => if_pos hdone

end Sys2Proof.Machine
end

section
/-! PROOFS. The preamble search (rule R204): which offset it finds, and how large the correlation can become. -/

namespace Sys2Proof.Machine

/-! ### The peak -/

/-- `t` is the earliest offset up to `n` at which the magnitude of `f` is largest (rule R204). -/
structure IsPeak (f : Nat → Int) (n t : Nat) : Prop where
  le : t ≤ n
  largest : ∀ k ≤ n, (f k).natAbs ≤ (f t).natAbs
  earliest : ∀ k < t, (f k).natAbs < (f t).natAbs

/-- There is only one peak: of two, neither can come before the other. -/
theorem IsPeak.unique {f : Nat → Int} {n t u : Nat} (ht : IsPeak f n t) (hu : IsPeak f n u) : t = u := by
  rcases Nat.lt_trichotomy t u with hlt | heq | hgt
  · exact absurd (hu.earliest t hlt) (Nat.not_lt.2 (ht.largest u hu.le))
  · exact heq
  · exact absurd (ht.earliest u hgt) (Nat.not_lt.2 (hu.largest t ht.le))

/-- The second component of the search is the magnitude at the first. -/
theorem peak_snd (f : Nat → Int) (n : Nat) : (peak f n).2 = (f (peak f n).1).natAbs := by
  induction n with
  | zero => rfl
  | succ n ih =>
    rw [peak]
    split
    · rfl
    · exact ih

theorem isPeak_peak (f : Nat → Int) (n : Nat) : IsPeak f n (peak f n).1 := by
  induction n with
  | zero => exact ⟨le_rfl, fun k hk => by rw [Nat.le_zero.1 hk]; exact le_rfl, nofun⟩
  | succ n ih =>
    rw [peak]
    split
    case isTrue hlarger =>
      rw [peak_snd] at hlarger
      have hbefore : ∀ k ≤ n, (f k).natAbs < (f (n + 1)).natAbs := fun k hk => (ih.largest k hk).trans_lt hlarger
      refine ⟨le_rfl, fun k hk => ?_, fun k hk => hbefore k (Nat.le_of_lt_succ hk)⟩
      rcases Nat.le_succ_iff.1 hk with hle | rfl
      · exact (hbefore k hle).le
      · exact le_rfl
    case isFalse hkept =>
      rw [peak_snd] at hkept
      refine ⟨ih.le.trans n.le_succ, fun k hk => ?_, ih.earliest⟩
      rcases Nat.le_succ_iff.1 hk with hle | rfl
      · exact ih.largest k hle
      · exact Nat.le_of_not_lt hkept

/-! ### Signed sums -/

/-- The sum of the values, each with the sign of its place in a template of levels: what a correlation is (rule R204). -/
def signedSum (levels : List Bool) (ds : List Int) : Int :=
  (List.zipWith (fun (b : Bool) (d : Int) => if b then d else -d) levels ds).sum

theorem correlation_eq_signedSum (es : List Nat) (total p t : Nat) :
    correlation es total p t = signedSum preamble (preambleMetrics es total p t) := rfl

theorem signedSum_cons (b : Bool) (levels : List Bool) (d : Int) (ds : List Int) :
    signedSum (b :: levels) (d :: ds) = (if b then d else -d) + signedSum levels ds := List.sum_cons

/-- A sign is a factor +1 or -1, as rule R204 writes the template. -/
theorem signedSum_eq_sum_mul (levels : List Bool) (ds : List Int) :
    signedSum levels ds = (List.zipWith (· * ·) (levels.map fun b => if b then (1 : Int) else -1) ds).sum := by
  have hfactor : (fun (b : Bool) (d : Int) => if b then d else -d) =
      fun (b : Bool) (d : Int) => (if b then (1 : Int) else -1) * d := by
    funext b d
    cases b <;> simp
  rw [signedSum, hfactor, List.zipWith_map_left]

/-- The triangle inequality. -/
theorem natAbs_signedSum_le {levels : List Bool} {ds : List Int} (hlen : levels.length = ds.length) :
    ((signedSum levels ds).natAbs : Int) ≤ (ds.map fun d => (d.natAbs : Int)).sum := by
  induction levels generalizing ds with
  | nil =>
    cases ds with
    | nil => rfl
    | cons d ds => simp at hlen
  | cons b levels ih =>
    cases ds with
    | nil => simp at hlen
    | cons d ds =>
      have hrest := ih (Nat.succ.inj hlen)
      rw [signedSum_cons, List.map_cons, List.sum_cons]
      split <;> omega

/-- Between a least and a largest value the signed sum is farthest from 0 when the places of one sign hold the one and those
of the other sign the other. -/
theorem signedSum_bounds {levels : List Bool} {ds : List Int} {lo hi : Int} (hlen : levels.length = ds.length)
    (hds : ∀ d ∈ ds, lo ≤ d ∧ d ≤ hi) :
    levels.count true * lo - levels.count false * hi ≤ signedSum levels ds ∧
      signedSum levels ds ≤ levels.count true * hi - levels.count false * lo := by
  induction levels generalizing ds with
  | nil => simp [signedSum]
  | cons b levels ih =>
    cases ds with
    | nil => simp at hlen
    | cons d ds =>
      obtain ⟨⟨hlo, hhi⟩, htail⟩ := List.forall_mem_cons.1 hds
      obtain ⟨hmin, hmax⟩ := ih (Nat.succ.inj hlen) htail
      rw [signedSum_cons]
      cases b
      case false =>
        rw [List.count_cons_self, List.count_cons_of_ne Bool.false_ne_true, if_neg Bool.false_ne_true]
        push_cast
        constructor <;> linarith
      case true =>
        rw [List.count_cons_self, List.count_cons_of_ne Bool.false_ne_true.symm, if_pos rfl]
        push_cast
        constructor <;> linarith

/-! ### The correlation -/

theorem length_preambleMetrics (es : List Nat) (total p t : Nat) :
    preamble.length = (preambleMetrics es total p t).length := by
  rw [preambleMetrics, List.length_map, List.length_range]
  rfl

/-- The correlation's magnitude is bounded by the sum of the windows' magnitudes (rule R204). -/
theorem natAbs_correlation_le (es : List Nat) (total p t : Nat) :
    ((correlation es total p t).natAbs : Int) ≤ magnitude es total p t :=
  natAbs_signedSum_le (length_preambleMetrics es total p t)

/-- The template has as many half-symbols at level +1 as at -1, so the correlation is bounded by the spread of the windows'
metrics. -/
theorem natAbs_correlation_le_of_bounds {es : List Nat} {total p t : Nat} {lo hi : Int}
    (h : ∀ j < 12, lo ≤ metric es total p (t + j * p) ∧ metric es total p (t + j * p) ≤ hi) :
    ((correlation es total p t).natAbs : Int) ≤ 6 * (hi - lo) := by
  have hds : ∀ d ∈ preambleMetrics es total p t, lo ≤ d ∧ d ≤ hi := by
    intro d hd
    obtain ⟨j, hj, rfl⟩ := List.mem_map.1 hd
    exact h j (List.mem_range.1 hj)
  have hhigh : preamble.count true = 6 := rfl
  have hlow : preamble.count false = 6 := rfl
  obtain ⟨hmin, hmax⟩ := signedSum_bounds (length_preambleMetrics es total p t) hds
  rw [← correlation_eq_signedSum, hhigh, hlow] at hmin hmax
  omega

/-- Settles O45: the search by `isPeak_peak`, the bound by the triangle inequality for signed sums. -/
theorem preambleSearch : Obligations.PreambleSearch := by
  refine ⟨fun f n => ?_, natAbs_correlation_le⟩
  have hpeak := isPeak_peak f n
  exact ⟨hpeak.le, peak_snd f n, hpeak.largest, hpeak.earliest⟩

end Sys2Proof.Machine
end

section
/-! PROOFS. The decoder's verdicts (rules R200 to R211): the decode of a frame whose peak is known, first in the model's terms,
then in those of the statement. -/

namespace Sys2Proof.Machine

/-! ### Runs of ambiguous symbols -/

theorem all_take_drop_iff {l : List Bool} {b0 n : Nat} (h : b0 + n ≤ l.length) :
    ((l.drop b0).take n).all id = true ↔ ∀ b, b0 ≤ b → b < b0 + n → l[b]? = some true := by
  rw [List.all_eq_true]
  constructor
  · intro hall b hle hlt
    have hb : b < l.length := by omega
    have hmem : l[b] ∈ (l.drop b0).take n := by
      refine List.mem_iff_getElem?.2 ⟨b - b0, ?_⟩
      rw [List.getElem?_take_of_lt (by omega), List.getElem?_drop, Nat.add_sub_of_le hle, List.getElem?_eq_getElem hb]
    rw [List.getElem?_eq_getElem hb, show l[b] = true from hall _ hmem]
  · intro hrun x hx
    obtain ⟨k, hk, rfl⟩ := List.mem_take_iff_getElem.1 hx
    rw [List.length_drop] at hk
    have hbit := hrun (b0 + k) (by omega) (by omega)
    rw [List.getElem?_eq_getElem (by omega), Option.some.injEq] at hbit
    rwa [List.getElem_drop]

/-- A run is a window of consecutive places that all hold (rule R208). -/
theorem hasRun_iff {run : Nat} {amb : List Bool} :
    hasRun run amb = true ↔
      ∃ b0, b0 + run ≤ amb.length ∧ ∀ b, b0 ≤ b → b < b0 + run → amb[b]? = some true := by
  simp only [hasRun, List.any_eq_true, List.mem_range, Bool.and_eq_true, decide_eq_true_eq]
  constructor
  · rintro ⟨b0, -, hle, hall⟩
    exact ⟨b0, hle, (all_take_drop_iff hle).1 hall⟩
  · rintro ⟨b0, hle, hrun⟩
    exact ⟨b0, by omega, hle, (all_take_drop_iff hle).2 hrun⟩

/-- Where nothing holds there is no run, but for the empty one. -/
theorem hasRun_eq_false {run : Nat} {amb : List Bool} (hrun : run ≠ 0) (h : ∀ a ∈ amb, a = false) :
    hasRun run amb = false := by
  refine Bool.eq_false_iff.2 fun hr => ?_
  obtain ⟨b0, -, hall⟩ := hasRun_iff.1 hr
  exact Bool.noConfusion (h true (List.mem_of_getElem? (hall b0 le_rfl (by omega))))

/-! ### The payload -/

/-- The first samples of the payload's symbols behind a preamble at offset `t` (rules R206, R207). -/
def payloadSymbols (p t : Nat) (expect : Expect) : List Nat :=
  (List.range expect.bits).map fun b => t + 12 * p + 2 * b * p

/-- The result for the bits of a payload (rules R210, R211). -/
def payloadResult (expect : Expect) (x : List Bool) (t : Nat) : Decoded :=
  match expect with
  | .rn16 => rn16Result x t
  | .id => idResult x t

/-- The payload's bits (rule R207). -/
def payloadBits (es : List Nat) (p t : Nat) (expect : Expect) : List Bool :=
  (payloadSymbols p t expect).map (symbolBit es es.sum p)

/-- Which symbols of the payload are ambiguous (rule R208). -/
def payloadAmbiguities (es : List Nat) (p frac t : Nat) (expect : Expect) : List Bool :=
  (payloadSymbols p t expect).map (symbolAmbiguous es es.sum p frac (magnitude es es.sum p t))

theorem payloadBits_length (es : List Nat) (p t : Nat) (expect : Expect) :
    (payloadBits es p t expect).length = expect.bits := by
  simp [payloadBits, payloadSymbols]

theorem payloadBits_getElem? (es : List Nat) (p t : Nat) {expect : Expect} {b : Nat} (hb : b < expect.bits) :
    (payloadBits es p t expect)[b]? = some (symbolBit es es.sum p (t + 12 * p + 2 * b * p)) := by
  simp [payloadBits, payloadSymbols, hb]

theorem payloadAmbiguities_length (es : List Nat) (p frac t : Nat) (expect : Expect) :
    (payloadAmbiguities es p frac t expect).length = expect.bits := by
  simp [payloadAmbiguities, payloadSymbols]

theorem payloadAmbiguities_getElem? (es : List Nat) (p frac t : Nat) {expect : Expect} {b : Nat} (hb : b < expect.bits) :
    (payloadAmbiguities es p frac t expect)[b]? =
      some (symbolAmbiguous es es.sum p frac (magnitude es es.sum p t) (t + 12 * p + 2 * b * p)) := by
  simp [payloadAmbiguities, payloadSymbols, hb]

/-- The two windows of a symbol, either of which can make it ambiguous (rule R208). -/
theorem symbolAmbiguous_iff {es : List Nat} {total p frac : Nat} {m : Int} {u : Nat} :
    symbolAmbiguous es total p frac m u = true ↔ ∃ h < 2, 192 * |metric es total p (u + h * p)| < frac * m := by
  have hwindow (u : Nat) : windowAmbiguous es total p frac m u = true ↔ 192 * |metric es total p u| < frac * m := by
    rw [windowAmbiguous, decide_eq_true_eq, Int.abs_eq_natAbs]
  rw [symbolAmbiguous, Bool.or_eq_true, hwindow, hwindow]
  constructor
  · rintro (hfirst | hsecond)
    · exact ⟨0, by decide, by rwa [Nat.zero_mul, Nat.add_zero]⟩
    · exact ⟨1, by decide, by rwa [Nat.one_mul]⟩
  · rintro ⟨h, hh, hamb⟩
    interval_cases h
    · exact .inl (by rwa [Nat.zero_mul, Nat.add_zero] at hamb)
    · exact .inr (by rwa [Nat.one_mul] at hamb)

/-! ### The verdict at a known peak -/

section
variable {c : Cfg} {es : List Nat} {t : Nat}

/-- The peak is refused by the detection threshold (rule R205). -/
def PeakRejected (c : Cfg) (es : List Nat) (t : Nat) : Prop :=
  magnitude es es.sum c.decSph.toNat t = 0 ∨
    16 * |correlation es es.sum c.decSph.toNat t| < c.preThr.toNat * magnitude es es.sum c.decSph.toNat t

/-- A frame in which the search finds its peak at `t`. -/
structure SearchedAt (c : Cfg) (es : List Nat) (t : Nat) : Prop where
  long : 12 * c.decSph.toNat ≤ es.length
  isPeak : IsPeak (correlation es es.sum c.decSph.toNat) (es.length - 12 * c.decSph.toNat) t

/-- Every frame that is long enough has its peak. -/
theorem exists_searchedAt (hlong : 12 * c.decSph.toNat ≤ es.length) : ∃ t, SearchedAt c es t :=
  ⟨_, hlong, isPeak_peak _ _⟩

theorem SearchedAt.of_abs (hfit : t + 12 * c.decSph.toNat ≤ es.length)
    (hlargest : ∀ k, k + 12 * c.decSph.toNat ≤ es.length →
      |correlation es es.sum c.decSph.toNat k| ≤ |correlation es es.sum c.decSph.toNat t|)
    (hearliest : ∀ k < t, |correlation es es.sum c.decSph.toNat k| < |correlation es es.sum c.decSph.toNat t|) :
    SearchedAt c es t := by
  simp only [Int.abs_eq_natAbs, Nat.cast_le, Nat.cast_lt] at hlargest hearliest
  exact ⟨by omega, by omega, fun k hk => hlargest k (by omega), hearliest⟩

variable (hs : SearchedAt c es t) (expect : Expect)
include hs

/-- The preamble lies inside the frame. -/
theorem SearchedAt.fits : t + 12 * c.decSph.toNat ≤ es.length := by
  have hlong := hs.long
  have hle := hs.isPeak.le
  omega

theorem SearchedAt.decode_eq : decodeEnergies c .tagReply es expect = decodeSearch c es expect :=
  if_neg (Nat.not_lt.2 hs.long)

theorem SearchedAt.peak_eq :
    (peak (correlation es es.sum c.decSph.toNat) (es.length - 12 * c.decSph.toNat)).1 = t :=
  (isPeak_peak _ _).unique hs.isPeak

theorem SearchedAt.decode_of_rejected (hrej : PeakRejected c es t) :
    decodeEnergies c .tagReply es expect = .noReply .noPeak := by
  rw [hs.decode_eq, decodeSearch]
  simp only [hs.peak_eq, ← Int.abs_eq_natAbs]
  exact if_pos hrej

/-- An accepted peak goes on to the payload's length (rule R206) and then to its symbols. -/
theorem SearchedAt.decode_of_accepted (hacc : ¬ PeakRejected c es t) :
    decodeEnergies c .tagReply es expect =
      if es.length < t + 12 * c.decSph.toNat + 2 * expect.bits * c.decSph.toNat then .collision .truncated t
      else if hasRun c.ambRun.toNat (payloadAmbiguities es c.decSph.toNat c.ambFrac.toNat t expect) then
        .collision .ambiguityRun t
      else payloadResult expect (payloadBits es c.decSph.toNat t expect) t := by
  rw [hs.decode_eq, decodeSearch]
  simp only [hs.peak_eq, ← Int.abs_eq_natAbs]
  refine (if_neg hacc).trans ?_
  cases expect <;> rfl

end

/-! ### Frames of constant energy -/

/-- A window inside a frame of constant energy has the metric 0 (corner case of rule R203). -/
theorem metric_replicate {n e p u : Nat} (hu : u + p ≤ n) :
    metric (List.replicate n e) (List.replicate n e).sum p u = 0 := by
  have hwindow : windowEnergy (List.replicate n e) p u = p * e := by
    rw [windowEnergy, List.drop_replicate, List.take_replicate, Nat.min_eq_left (by omega), List.sum_replicate,
      smul_eq_mul]
  rw [metric, hwindow, List.length_replicate, List.sum_replicate, smul_eq_mul]
  push_cast
  ring

theorem magnitude_replicate {n e p t : Nat} (ht : t + 12 * p ≤ n) :
    magnitude (List.replicate n e) (List.replicate n e).sum p t = 0 := by
  have hzero : preambleMetrics (List.replicate n e) (List.replicate n e).sum p t = List.replicate 12 0 := by
    refine List.eq_replicate_iff.2 ⟨(length_preambleMetrics _ _ _ _).symm, fun d hd => ?_⟩
    obtain ⟨j, hj, rfl⟩ := List.mem_map.1 hd
    have hj12 : j + 1 ≤ 12 := List.mem_range.1 hj
    have hend : (j + 1) * p ≤ 12 * p := Nat.mul_le_mul_right p hj12
    exact metric_replicate (by rw [Nat.succ_mul] at hend; omega)
  rw [magnitude, hzero]
  rfl

/-- A frame of constant energy holds no reply, whatever the thresholds (corner case of rule R205). -/
theorem decode_replicate (c : Cfg) (expect : Expect) {n : Nat} (e : Nat) (hn : 12 * c.decSph.toNat ≤ n) :
    decodeEnergies c .tagReply (List.replicate n e) expect = .noReply .noPeak := by
  have hlong : 12 * c.decSph.toNat ≤ (List.replicate n e).length := by rwa [List.length_replicate]
  obtain ⟨t, hs⟩ := exists_searchedAt hlong
  have hfits := hs.fits
  rw [List.length_replicate] at hfits
  exact hs.decode_of_rejected expect (.inl (magnitude_replicate hfits))

/-! ### The quantities of the rules, written out -/

/-- The correlation as a sum of products with the template of rule R151. -/
theorem correlation_eq_sum_mul (es : List Nat) (total p t : Nat) :
    correlation es total p t = (List.zipWith (· * ·) [1, 1, -1, 1, -1, -1, 1, -1, -1, -1, 1, 1]
      ((List.range 12).map fun j => metric es total p (t + j * p))).sum :=
  signedSum_eq_sum_mul preamble _

theorem magnitude_eq_sum_abs (es : List Nat) (total p t : Nat) :
    magnitude es total p t = ((List.range 12).map fun j => |metric es total p (t + j * p)|).sum := by
  simp only [magnitude, preambleMetrics, List.map_map, Function.comp_def, Int.abs_eq_natAbs]
  rfl

/-- A run of ambiguous symbols, window by window (rule R208). -/
theorem hasRun_payloadAmbiguities_iff {es : List Nat} {p frac t run : Nat} {expect : Expect} :
    hasRun run (payloadAmbiguities es p frac t expect) = true ↔
      ∃ b0, b0 + run ≤ expect.bits ∧ ∀ b, b0 ≤ b → b < b0 + run →
        ∃ h < 2, 192 * |metric es es.sum p (t + 12 * p + (2 * b + h) * p)| < frac * magnitude es es.sum p t := by
  rw [hasRun_iff, payloadAmbiguities_length]
  refine exists_congr fun b0 => and_congr_right fun hle => forall_congr' fun b => forall_congr' fun _ =>
    forall_congr' fun hlt => ?_
  simp only [payloadAmbiguities_getElem? es p frac t (show b < expect.bits by omega), Option.some.injEq,
    symbolAmbiguous_iff, Nat.add_mul, Nat.add_assoc]

/-- The identifier's fields, from the positions of its 128 bits (rules R209, R211). -/
theorem idResult_eq {x : List Bool} (t : Nat) (hx : x.length = 128) :
    idResult x t =
      { kind := .identifierReply, reason := .decoded, rn := 0, t
        valid := crc16 (x.take 112) == BitVec.ofNat 16 (msbFirst (x.drop 112))
        pc := BitVec.ofNat 16 (msbFirst (x.take 16))
        epc := BitVec.ofNat 96 (msbFirst ((x.drop 16).take 96)) } := by
  have hlen : (x.drop 112).length = 16 := by rw [List.length_drop, hx]
  rw [idResult, fieldAt, List.take_of_length_le hlen.le]
  rfl

/-- Settles O46: the statement's quantities are the model's, its offset is the peak (`IsPeak.unique`), and the verdict at a
known peak is `SearchedAt.decode_of_rejected` or `SearchedAt.decode_of_accepted`. -/
theorem decoderVerdicts : Obligations.DecoderVerdicts := by
  refine ⟨fun c expect => ⟨fun _ => rfl, fun _ hshort => if_pos hshort, fun _ e => decode_replicate c expect e⟩, ?_⟩
  intro c expect es t p nb D C M hfit hlargest hearliest rejected truncated ambiguous collided r
  have hC (k : Nat) : C k = correlation es es.sum p k := (correlation_eq_sum_mul es es.sum p k).symm
  have hM : M = magnitude es es.sum p t := (magnitude_eq_sum_abs es es.sum p t).symm
  have hnb : nb = expect.bits := by cases expect <;> rfl
  simp only [hC] at hlargest hearliest
  have hs : SearchedAt c es t := .of_abs hfit hlargest hearliest
  have hrejected : rejected ↔ PeakRejected c es t := by
    simp only [rejected, hC, hM]
    rfl
  have hcollided : collided ↔ hasRun c.ambRun.toNat (payloadAmbiguities es p c.ambFrac.toNat t expect) = true := by
    simp only [collided, ambiguous, hM, hnb]
    exact hasRun_payloadAmbiguities_iff.symm
  have htruncated : truncated ↔ es.length < t + 12 * p + 2 * expect.bits * p := by
    simp only [truncated, hnb]
  rw [hrejected, hcollided, htruncated, hnb]
  refine ⟨hs.decode_of_rejected expect, fun hacc hshort => ?_, fun hacc hfull hrun => ?_, fun hacc hfull hclear => ?_⟩
  · exact (hs.decode_of_accepted expect hacc).trans (if_pos hshort)
  · exact (hs.decode_of_accepted expect hacc).trans ((if_neg hfull).trans (if_pos hrun))
  · refine ⟨payloadBits es p t expect, payloadBits_length es p t expect,
      fun b hb => payloadBits_getElem? es p t hb, ?_⟩
    have hlen := payloadBits_length es p t expect
    refine ((hs.decode_of_accepted expect hacc).trans ((if_neg hfull).trans (if_neg hclear))).trans ?_
    cases expect with
    | rn16 => rfl
    | id => exact idResult_eq t hlen

end Sys2Proof.Machine
end

section
/-! PROOFS. The round trip of rule R213. Every window's metric lies between those of the frame's two levels, and the correlation
with the template, which has as many half-symbols at either level, is largest where the windows have exactly its levels: at
offset 0. There it is equal to the magnitude, and since the two levels lie on opposite sides of the frame's mean, the symbols
behind it give back the bits. -/

namespace Sys2Proof.Machine

/-! ### Sample energies of a sequence of levels -/

/-- The sample energies of half-symbol levels: `p` samples each, of energy `h` at level +1 and `l` at level -1. -/
def levelEnergies (p h l : Nat) (levels : List Bool) : List Nat :=
  levels.flatMap fun level => List.replicate p (if level then h else l)

theorem idealEnergies_eq (p h l : Nat) (bits : List Bool) :
    idealEnergies p h l bits = levelEnergies p h l (fm0Halves bits) := rfl

theorem levelEnergies_cons (p h l : Nat) (level : Bool) (levels : List Bool) :
    levelEnergies p h l (level :: levels) = List.replicate p (if level then h else l) ++ levelEnergies p h l levels :=
  List.flatMap_cons

theorem levelEnergies_length (p h l : Nat) (levels : List Bool) :
    (levelEnergies p h l levels).length = levels.length * p := by
  simp [levelEnergies, List.length_flatMap]

theorem levelEnergies_sum (p h l : Nat) (levels : List Bool) :
    (levelEnergies p h l levels).sum = p * (levels.count true * h + levels.count false * l) := by
  induction levels with
  | nil => simp [levelEnergies]
  | cons level levels ih =>
    rw [levelEnergies_cons, List.sum_append_nat, List.sum_replicate, smul_eq_mul, ih]
    cases level <;> simp <;> ring

theorem mem_levelEnergies {p h l : Nat} {levels : List Bool} {e : Nat} (he : e ∈ levelEnergies p h l levels) :
    e = h ∨ e = l := by
  obtain ⟨level, -, hmem⟩ := List.mem_flatMap.1 he
  obtain rfl := List.eq_of_mem_replicate hmem
  cases level
  · exact .inr rfl
  · exact .inl rfl

/-- An aligned window holds the energy of one half-symbol (rule R203). -/
theorem windowEnergy_levelEnergies {p h l : Nat} {levels : List Bool} {k : Nat} {level : Bool}
    (hk : levels[k]? = some level) :
    windowEnergy (levelEnergies p h l levels) p (k * p) = p * if level then h else l := by
  induction levels generalizing k with
  | nil => simp at hk
  | cons first levels ih =>
    rw [windowEnergy, levelEnergies_cons]
    cases k with
    | zero =>
      obtain rfl : first = level := by simpa using hk
      rw [Nat.zero_mul, List.drop_zero, List.take_left' List.length_replicate, List.sum_replicate, smul_eq_mul]
    | succ k =>
      have hskip : (k + 1) * p = (List.replicate p (if first then h else l)).length + k * p := by
        rw [List.length_replicate, Nat.succ_mul, Nat.add_comm]
      rw [hskip, List.drop_length_add_append]
      exact ih hk

/-! ### Metrics of windows -/

/-- The metric of a window of `p` samples of one energy `e` (rule R203). -/
def levelMetric (es : List Nat) (p e : Nat) : Int := (es.length : Int) * (p * e : Nat) - p * (es.sum : Int)

theorem levelMetric_mono (es : List Nat) (p : Nat) : Monotone (levelMetric es p) := by
  intro a b hab
  have hpab : ((p * a : Nat) : Int) ≤ (p * b : Nat) := Int.ofNat_le.2 (Nat.mul_le_mul_left p hab)
  exact Int.sub_le_sub_right (Int.mul_le_mul_of_nonneg_left hpab (Int.natCast_nonneg _)) _

theorem metric_of_windowEnergy {es : List Nat} {p u e : Nat} (h : windowEnergy es p u = p * e) :
    metric es es.sum p u = levelMetric es p e := by
  rw [metric, h, levelMetric]

/-- A whole window of samples between two energies has a metric between theirs. -/
theorem metric_bounds {es : List Nat} {p u lo hi : Nat} (hu : u + p ≤ es.length) (hes : ∀ e ∈ es, lo ≤ e ∧ e ≤ hi) :
    levelMetric es p lo ≤ metric es es.sum p u ∧ metric es es.sum p u ≤ levelMetric es p hi := by
  have hlen : ((es.drop u).take p).length = p := by
    rw [List.length_take, List.length_drop]
    omega
  have hmem {e : Nat} (he : e ∈ (es.drop u).take p) : lo ≤ e ∧ e ≤ hi :=
    hes e (List.mem_of_mem_drop (List.mem_of_mem_take he))
  have hmin : p * lo ≤ windowEnergy es p u := by
    simpa only [windowEnergy, hlen, smul_eq_mul] using List.card_nsmul_le_sum ((es.drop u).take p) lo fun e he => (hmem he).1
  have hmax : windowEnergy es p u ≤ p * hi := by
    simpa only [windowEnergy, hlen, smul_eq_mul] using List.sum_le_card_nsmul ((es.drop u).take p) hi fun e he => (hmem he).2
  constructor
  · exact Int.sub_le_sub_right (Int.mul_le_mul_of_nonneg_left (Int.ofNat_le.2 hmin) (Int.natCast_nonneg _)) _
  · exact Int.sub_le_sub_right (Int.mul_le_mul_of_nonneg_left (Int.ofNat_le.2 hmax) (Int.natCast_nonneg _)) _

/-- Two metrics on opposite sides of the frame's mean. -/
def OppositeSigns (x y : Int) : Prop := (0 < x ∧ y < 0) ∨ (x < 0 ∧ 0 < y)

/-- In a frame that holds both levels, each lies as far from the mean as there are half-symbols of the other. -/
theorem levelMetric_levelEnergies_high (p h l : Nat) (levels : List Bool) :
    levelMetric (levelEnergies p h l levels) p h = p * p * levels.count false * ((h : Int) - l) := by
  rw [levelMetric, levelEnergies_length, levelEnergies_sum, ← List.count_true_add_count_false levels]
  push_cast
  ring

theorem levelMetric_levelEnergies_low (p h l : Nat) (levels : List Bool) :
    levelMetric (levelEnergies p h l levels) p l = p * p * levels.count true * ((l : Int) - h) := by
  rw [levelMetric, levelEnergies_length, levelEnergies_sum, ← List.count_true_add_count_false levels]
  push_cast
  ring

theorem oppositeSigns_levelMetric {p h l : Nat} {levels : List Bool} (hp : 0 < p) (hhl : h ≠ l)
    (hhigh : true ∈ levels) (hlow : false ∈ levels) :
    OppositeSigns (levelMetric (levelEnergies p h l levels) p h) (levelMetric (levelEnergies p h l levels) p l) := by
  have htrue : (0 : Int) < p * p * levels.count true := by
    have := List.count_pos_iff.2 hhigh
    positivity
  have hfalse : (0 : Int) < p * p * levels.count false := by
    have := List.count_pos_iff.2 hlow
    positivity
  rw [levelMetric_levelEnergies_high, levelMetric_levelEnergies_low]
  rcases Nat.lt_or_gt_of_ne hhl with hlt | hgt
  · exact .inr ⟨mul_neg_of_pos_of_neg hfalse (by omega), mul_pos htrue (by omega)⟩
  · exact .inl ⟨mul_pos hfalse (by omega), mul_neg_of_pos_of_neg htrue (by omega)⟩

/-- Two half-symbols lie on the same side of the mean exactly when they have the same level. -/
theorem nonNeg_beq_nonNeg {x y : Int} (h : OppositeSigns x y) (a b : Bool) :
    (nonNeg (if a then x else y) == nonNeg (if b then x else y)) = (a == b) := by
  have hne : nonNeg x = !nonNeg y := by
    rcases h with ⟨hx, hy⟩ | ⟨hx, hy⟩
    · rw [nonNeg, nonNeg, decide_eq_true hx.le, decide_eq_false (Int.not_le.2 hy), Bool.not_false]
    · rw [nonNeg, nonNeg, decide_eq_false (Int.not_le.2 hx), decide_eq_true hy.le, Bool.not_true]
  cases a <;> cases b <;> simp [hne]

/-! ### The ideal frame -/

theorem mem_fm0Halves (bits : List Bool) (level : Bool) : level ∈ fm0Halves bits :=
  List.mem_append_left _ (by cases level <;> decide)

section
variable {p h l : Nat} {bits : List Bool} {es : List Nat} (hes : es = idealEnergies p h l bits)
include hes

theorem length_of_ideal : es.length = (14 + 2 * bits.length) * p := by
  rw [hes, idealEnergies_eq, levelEnergies_length, fm0Halves_length]

theorem oppositeSigns_of_ideal (hp : 0 < p) (hhl : h ≠ l) :
    OppositeSigns (levelMetric es p h) (levelMetric es p l) := by
  rw [hes]
  exact oppositeSigns_levelMetric hp hhl (mem_fm0Halves bits true) (mem_fm0Halves bits false)

/-- The metric of a half-symbol of an ideal frame is that of its level. -/
theorem metric_of_ideal {k : Nat} {level : Bool} (hk : (fm0Halves bits)[k]? = some level) :
    metric es es.sum p (k * p) = if level then levelMetric es p h else levelMetric es p l := by
  have hwindow := windowEnergy_levelEnergies (p := p) (h := h) (l := l) hk
  rw [← idealEnergies_eq, ← hes] at hwindow
  rw [metric_of_windowEnergy hwindow, apply_ite (levelMetric es p)]

/-- At offset 0 the windows have the template's levels. -/
theorem preambleMetrics_of_ideal :
    preambleMetrics es es.sum p 0 =
      preamble.map fun level => if level then levelMetric es p h else levelMetric es p l := by
  refine List.ext_getElem (by rw [← length_preambleMetrics, List.length_map]) fun j hmetric _ => ?_
  have hj : j < preamble.length := by rwa [← length_preambleMetrics] at hmetric
  have hlevel : (fm0Halves bits)[j]? = some preamble[j] :=
    (List.getElem?_append_left hj).trans (List.getElem?_eq_getElem hj)
  have hwindow : (preambleMetrics es es.sum p 0)[j] = metric es es.sum p (j * p) := by simp [preambleMetrics]
  rw [List.getElem_map]
  exact hwindow.trans (metric_of_ideal hes hlevel)

theorem correlation_of_ideal_zero :
    correlation es es.sum p 0 = 6 * (levelMetric es p h - levelMetric es p l) := by
  rw [correlation_eq_signedSum, preambleMetrics_of_ideal hes]
  simp only [preamble, List.map_cons, List.map_nil, signedSum, List.zipWith_cons_cons, List.zipWith_nil_left,
    List.sum_cons, List.sum_nil, if_true, Bool.false_eq_true, if_false]
  ring

theorem magnitude_of_ideal_zero :
    magnitude es es.sum p 0 = 6 * ((levelMetric es p h).natAbs + (levelMetric es p l).natAbs : Nat) := by
  rw [magnitude, preambleMetrics_of_ideal hes]
  simp only [preamble, List.map_cons, List.map_nil, List.sum_cons, List.sum_nil, if_true, Bool.false_eq_true, if_false]
  push_cast
  ring

/-- No offset of an ideal frame has a larger correlation than offset 0. -/
theorem natAbs_correlation_of_ideal_le {t : Nat} (ht : t + 12 * p ≤ es.length) :
    (correlation es es.sum p t).natAbs ≤ (correlation es es.sum p 0).natAbs := by
  have hlevels : ∀ e ∈ es, min h l ≤ e ∧ e ≤ max h l := by
    intro e he
    rw [hes] at he
    rcases mem_levelEnergies he with rfl | rfl <;> omega
  have hwindow (j : Nat) (hj : j < 12) : t + j * p + p ≤ es.length := by
    have hend : (j + 1) * p ≤ 12 * p := Nat.mul_le_mul_right p hj
    rw [Nat.succ_mul] at hend
    omega
  have hbound := natAbs_correlation_le_of_bounds fun j hj => metric_bounds (hwindow j hj) hlevels
  rw [(levelMetric_mono es p).map_max, (levelMetric_mono es p).map_min] at hbound
  rw [correlation_of_ideal_zero hes]
  omega

/-- The two halves of a payload symbol lie on the same side of the mean exactly when its bit is 1 (rules R150, R207). -/
theorem symbolBit_of_ideal (hp : 0 < p) (hhl : h ≠ l) {b : Nat} (hb : b < bits.length) :
    some (symbolBit es es.sum p ((12 + 2 * b) * p)) = bits[b]? := by
  obtain ⟨first, hfirst⟩ : ∃ level, (fm0Halves bits)[12 + 2 * b]? = some level :=
    ⟨_, List.getElem?_eq_getElem (by rw [fm0Halves_length]; omega)⟩
  obtain ⟨second, hsecond⟩ : ∃ level, (fm0Halves bits)[12 + 2 * b + 1]? = some level :=
    ⟨_, List.getElem?_eq_getElem (by rw [fm0Halves_length]; omega)⟩
  obtain ⟨-, -, -, hsymbol⟩ := fm0LineCode bits
  have hbit := hsymbol b hb.le
  rw [hfirst, hsecond, List.getElem?_append_left hb, List.getElem?_eq_getElem hb, Option.some.injEq,
    Option.some.injEq] at hbit
  rw [symbolBit, ← Nat.succ_mul, metric_of_ideal hes hfirst, metric_of_ideal hes hsecond,
    nonNeg_beq_nonNeg (oppositeSigns_of_ideal hes hp hhl), List.getElem?_eq_getElem hb, Option.some.injEq,
    Bool.eq_iff_iff, beq_iff_eq, hbit]

theorem payloadBits_of_ideal (hp : 0 < p) (hhl : h ≠ l) {expect : Expect} (hbits : bits.length = expect.bits) :
    payloadBits es p 0 expect = bits := by
  refine List.ext_getElem? fun b => ?_
  by_cases hb : b < expect.bits
  · rw [payloadBits_getElem? es p 0 hb, ← symbolBit_of_ideal hes hp hhl (hbits ▸ hb), Nat.zero_add, ← Nat.add_mul]
  · rw [List.getElem?_eq_none (by rw [payloadBits_length]; omega), List.getElem?_eq_none (by omega)]

/-- Where both levels are clear of the ambiguity threshold, no window of a half-symbol is ambiguous (rule R213). -/
theorem not_windowAmbiguous_of_ideal {frac k : Nat} (hk : k < (fm0Halves bits).length)
    (hclear : frac * ((levelMetric es p h).natAbs + (levelMetric es p l).natAbs) ≤
      32 * min (levelMetric es p h).natAbs (levelMetric es p l).natAbs) :
    windowAmbiguous es es.sum p frac (magnitude es es.sum p 0) (k * p) = false := by
  rw [windowAmbiguous, metric_of_ideal hes (List.getElem?_eq_getElem hk), magnitude_of_ideal_zero hes,
    Int.mul_left_comm, ← Nat.cast_mul]
  refine decide_eq_false (Int.not_lt.2 ?_)
  split <;> omega

theorem payloadAmbiguities_of_ideal {frac : Nat} {expect : Expect} (hbits : bits.length = expect.bits)
    (hclear : frac * ((levelMetric es p h).natAbs + (levelMetric es p l).natAbs) ≤
      32 * min (levelMetric es p h).natAbs (levelMetric es p l).natAbs) :
    ∀ a ∈ payloadAmbiguities es p frac 0 expect, a = false := by
  intro a ha
  obtain ⟨u, hu, rfl⟩ := List.mem_map.1 ha
  obtain ⟨b, hb, rfl⟩ := List.mem_map.1 hu
  have hlt : 12 + 2 * b + 1 < (fm0Halves bits).length := by
    rw [fm0Halves_length, hbits]
    have := List.mem_range.1 hb
    omega
  rw [Nat.zero_add, ← Nat.add_mul, symbolAmbiguous, ← Nat.succ_mul,
    not_windowAmbiguous_of_ideal hes (Nat.lt_of_succ_lt hlt) hclear, not_windowAmbiguous_of_ideal hes hlt hclear]
  rfl

end

/-- The search finds an ideal frame at its first sample. -/
theorem searchedAt_of_ideal {c : Cfg} {h l : Nat} {bits : List Bool} {es : List Nat}
    (hes : es = idealEnergies c.decSph.toNat h l bits) : SearchedAt c es 0 := by
  have hlong : 12 * c.decSph.toNat ≤ es.length := by
    rw [length_of_ideal hes]
    exact Nat.mul_le_mul_right _ (by omega)
  exact ⟨hlong, Nat.zero_le _, fun k hk => natAbs_correlation_of_ideal_le hes (by omega), nofun⟩

/-- At offset 0 the correlation equals the magnitude, which no threshold up to 16 refuses (rules R205, R213). -/
theorem not_peakRejected_of_ideal {c : Cfg} {h l : Nat} {bits : List Bool} {es : List Nat}
    (hes : es = idealEnergies c.decSph.toNat h l bits) (hp : 0 < c.decSph.toNat) (hhl : h ≠ l)
    (hthr : c.preThr.toNat ≤ 16) : ¬ PeakRejected c es 0 := by
  have hsigns := oppositeSigns_of_ideal hes hp hhl
  have hequal : |correlation es es.sum c.decSph.toNat 0| = magnitude es es.sum c.decSph.toNat 0 := by
    rw [correlation_of_ideal_zero hes, magnitude_of_ideal_zero hes, Int.abs_eq_natAbs]
    rcases hsigns with ⟨hh, hl⟩ | ⟨hh, hl⟩ <;> omega
  have hpos : 0 < magnitude es es.sum c.decSph.toNat 0 := by
    rw [magnitude_of_ideal_zero hes]
    rcases hsigns with ⟨hh, hl⟩ | ⟨hh, hl⟩ <;> omega
  rintro (hzero | hbelow)
  · exact hpos.ne' hzero
  · rw [hequal] at hbelow
    have hle := Int.mul_le_mul_of_nonneg_right (Int.ofNat_le.2 hthr) hpos.le
    exact absurd hbelow (Int.not_lt.2 hle)

/-- Settles O42: the search finds the frame at offset 0 and accepts it, its payload fits and holds no ambiguous symbol, and
the payload's bits are those the frame was built from. -/
theorem decoderRoundTrip : Obligations.DecoderRoundTrip := by
  intro c expect bits h l hbits hhl hsph hthr hrun p es dh dl hclear
  have hes : es = idealEnergies p h l bits := rfl
  have hp : 0 < p := Nat.pos_of_ne_zero fun h0 => hsph (BitVec.eq_of_toNat_eq h0)
  have hrun' : c.ambRun.toNat ≠ 0 := fun h0 => hrun (BitVec.eq_of_toNat_eq h0)
  have hfull : ¬ es.length < 0 + 12 * p + 2 * expect.bits * p := by
    rw [length_of_ideal hes, hbits, Nat.zero_add, ← Nat.add_mul]
    exact Nat.not_lt.2 (Nat.mul_le_mul_right p (by omega))
  have hquiet : hasRun c.ambRun.toNat (payloadAmbiguities es p c.ambFrac.toNat 0 expect) = false :=
    hasRun_eq_false hrun' (payloadAmbiguities_of_ideal hes hbits hclear)
  rw [(searchedAt_of_ideal hes).decode_of_accepted expect (not_peakRejected_of_ideal hes hp hhl hthr), if_neg hfull,
    hquiet, payloadBits_of_ideal hes hp hhl hbits]
  cases expect <;> rfl

end Sys2Proof.Machine
end

section
/-! PROOFS. The Reader's procedures (rules R243, R246, R250 to R260, R262): each by the lemma of its cases, with the next state
of each case written out; and what a sample makes of the slot counter (rule R263(a)). -/

namespace Sys2Proof.Machine

variable {s t u : State}

/-! ### The emitted words -/

/-- The 17 bits before the CRC are the word's fields in air order (rule R134). -/
theorem queryWord_before_crc (dr : BitVec 1) (sel session : BitVec 2) (target : BitVec 1) (q : BitVec 4)
    (crc : BitVec 5) : (queryWord dr sel session target q crc).toNat / 2 ^ 5 =
      (0b1000#4 ++ dr ++ 0b000#3 ++ sel ++ session ++ target ++ q).toNat := by
  rw [queryWord, BitVec.toNat_setWidth, Nat.mod_eq_of_lt (by omega)]
  simp only [toNat_append_eq_add, BitVec.toNat_ofNat]
  omega

/-- The configured Query's CRC-5 is taken over the configured fields in air order (rules R134, R242). -/
theorem queryCrc_eq (c : Cfg) :
    c.queryCrc = crc5 (bitsOf 17 (0b1000#4 ++ c.dr ++ 0b000#3 ++ c.qSel ++ c.session ++ c.target ++ c.rdrQ).toNat) := by
  rw [Cfg.queryCrc, queryBits_take_eq_bitsOf, queryWord_before_crc]

theorem selectBits_length (target action : BitVec 3) (memBank : BitVec 2) (pointer : BitVec 7) (length : BitVec 6)
    (mask : BitVec 32) (trunc : BitVec 1) (crc : BitVec 16) :
    (selectBits target action memBank pointer length mask trunc crc).length = 45 + length.toNat := by
  rw [selectBits, List.length_append, selectBody_length, bitsOf_length]
  omega

/-! ### Rounds and slots -/

/-- Settles O12: the bits that are emitted are the word's (`ofNat_queryBits`), and their CRC is the configured one
(`queryCrc_eq`). -/
theorem startQueryEmitsConfiguredQuery : Obligations.StartQueryEmitsConfiguredQuery := by
  intro s
  have hcrc := queryCrc_eq s.cfg
  simp only [Cfg.dr, Cfg.qSel, Cfg.session, Cfg.target] at hcrc
  rw [← hcrc, ← ofNat_queryBits]
  rfl

/-- Settles O13: the cases of `ROUND_BEGIN` (`roundBegin_cases`); the state between is `newRound s`, which loads `2^RDR_Q`
without wrapping (`toNat_slotCount`) and clears the handles alone of the memories. -/
theorem roundBegin_outcomes : Obligations.RoundBegin := by
  intro s
  rcases roundBegin_cases s with ⟨hend, he⟩ | ⟨hgo, hroom, hopens⟩
  · refine ⟨fun _ => he, fun hgo hroom => ?_⟩
    simp [hgo, Nat.not_le.2 hroom] at hend
  · refine ⟨fun hend => ?_, fun _ _ =>
      ⟨newRound s, rfl, toNat_slotCount _, fun _ => rfl, fun _ => rfl, fun _ => rfl, fun h0 => ?_, fun h1 => ?_⟩⟩
    · simp [hgo, Nat.not_le.2 hroom] at hend
    · rcases hopens with ⟨hsel, -⟩ | ⟨-, he⟩
      · simp [h0] at hsel
      · exact he
    · rcases hopens with ⟨-, he⟩ | ⟨hsel, -⟩
      · rw [he, ← selectBits_length s.cfg.sTarget s.cfg.action s.cfg.memBank s.cfg.pointer s.cfg.length s.cfg.selMask
          s.cfg.trunc s.cfg.selectCrc]
        rfl
      · exact absurd h1 hsel

/-- Settles O14: the cases of `END_SLOT` (`endSlot_cases`), told apart by the slots left. -/
theorem endSlot_outcomes : Obligations.EndSlot := by
  intro o s hslots t
  have hcount : countOutcome o s.tally = t := by cases o <;> rfl
  have hone : s.rdr.slotsRem - 1 = 0 ↔ s.rdr.slotsRem.toNat = 1 := by bv_omega
  rcases endSlot_cases s o with ⟨hlast, he⟩ | ⟨hmore, hstop, he⟩ | ⟨hmore, hgo, he⟩
  · have hslot := hone.1 hlast
    refine ⟨fun _ => ?_, fun _ _ => by omega, fun _ _ => by omega⟩
    rw [he, slotCounted, hcount, hlast]
    rfl
  · refine ⟨fun hlast => absurd (hone.2 hlast) hmore, fun _ _ => ?_, fun _ hgo => by simp [hgo] at hstop⟩
    rw [he, slotCounted, hcount]
    rfl
  · refine ⟨fun hlast => absurd (hone.2 hlast) hmore, fun _ hstop => by simp [hgo] at hstop, fun _ _ => ?_⟩
    rw [he, slotCounted, hcount, ← ofNat_queryRepBits]
    rfl

/-! ### Classification -/

/-- The next state of an `ACK` (rules R137, R241, R252). -/
theorem emitAck_eq (rn : BitVec 16) (s : State) : emitAck rn s = { s with
    rdr := { s.rdr with txBusy := true, tWait := 0, lastCmd := 4, lastHandle := rn, rstate := .ackSequence }
    mem := s.mem.setHb rn
    outs := s.outs ++ [.cmd { kind := 4, word := ackWord rn, len := 18, pre := 0, timing := s.cfg.txTiming }] } := by
  rw [← ofNat_ackBits]
  rfl

/-- Settles O15: the branches of `CLASSIFY`, an RN16 by the cases of `ACK_OR_REFUSE`, with the memory law of `HB` for a new
one. -/
theorem classification : Obligations.Classification := by
  refine ⟨fun d s hr => ⟨?_, ?_, ?_, ?_⟩, fun d s hr => ⟨?_, ?_, ?_⟩⟩
  · intro hk
    simp only [classify, hr, hk]
  · intro hk
    simp only [classify, hr, hk]
  · intro hk hknown
    simp only [classify, hr, hk, ackOrRefuse, hknown, if_true]
  · intro hk hnew hmem
    refine ⟨s.mem.setHb d.rn, ?_, Memory.readHb_setHb _ hmem d.rn, fun _ => rfl, fun _ => rfl⟩
    simp only [classify, hr, hk, ackOrRefuse, hnew, emitAck_eq]
    rfl
  · intro hk hv
    simp only [classify, hr, hk, hv, and_self, if_true]
  · intro hv
    simp [classify, hr, hv]
  · intro hk
    simp [classify, hr, hk]

/-- `epcKnown` written out (rule R258). -/
theorem epcKnown_iff (s : State) (epc : BitVec 96) :
    epcKnown s epc = true ↔ ∃ k < s.tally.tDistinct.toNat, (s.mem.readId k).epc = epc := by
  simp [epcKnown]

theorem epcKnown_eq_false_iff (s : State) (epc : BitVec 96) :
    epcKnown s epc = false ↔ ∀ k < s.tally.tDistinct.toNat, (s.mem.readId k).epc ≠ epc := by
  simp [epcKnown]

/-- Settles O16: the cases of `RECORD_ID` (`recordId_cases`), with the memory law of `IDS`. -/
theorem recordIdentifier : Obligations.RecordIdentifier := by
  intro pc epc s hmem
  rcases recordId_cases s pc epc with ⟨hknown, he⟩ | ⟨hunknown, hroom, he⟩ | ⟨hunknown, hfull, he⟩
  · obtain ⟨k, hk, hepc⟩ := (epcKnown_iff s epc).1 hknown
    exact ⟨fun _ => he, fun hnew => absurd hepc (hnew k hk), fun hnew => absurd hepc (hnew k hk)⟩
  · have hnew := (epcKnown_eq_false_iff s epc).1 hunknown
    exact ⟨fun ⟨k, hk, hepc⟩ => absurd hepc (hnew k hk), fun _ hfull => absurd hroom (Nat.not_lt.2 hfull), fun _ _ =>
      ⟨_, he, Memory.readId_writeId _ hmem _ _, fun _ => rfl, fun _ => rfl⟩⟩
  · have hnew := (epcKnown_eq_false_iff s epc).1 hunknown
    exact ⟨fun ⟨k, hk, hepc⟩ => absurd hepc (hnew k hk), fun _ _ => he, fun _ hroom =>
      absurd hroom (Nat.not_lt.2 hfull)⟩

/-! ### Debug records -/

theorem bytesLE_length (n v : Nat) : (bytesLE n v).length = n := by
  induction n generalizing v with
  | zero => rfl
  | succ n ih => rw [bytesLE, List.length_cons, ih]

/-- The bytes of a value, least significant first (rule R88). -/
theorem getElem?_bytesLE {n k : Nat} (hk : k < n) (v : Nat) :
    (bytesLE n v)[k]? = some (BitVec.ofNat 8 (v / 256 ^ k)) := by
  induction n generalizing k v with
  | zero => omega
  | succ n ih =>
    cases k with
    | zero => simp [bytesLE]
    | succ k => rw [bytesLE, List.getElem?_cons_succ, ih (by omega), Nat.div_div_eq_div_mul, Nat.pow_succ']

/-- Where words of `n` elements each stand one behind the other, the `j`-th element of the `w`-th is at `n * w + j`. -/
theorem getElem?_flatten_of_length {α : Type} {words : List (List α)} {n w j : Nat} {word : List α}
    (hlen : ∀ x ∈ words, x.length = n) (hw : words[w]? = some word) (hj : j < n) :
    words.flatten[n * w + j]? = word[j]? := by
  induction words generalizing w with
  | nil => simp at hw
  | cons first rest ih =>
    have hfirst : first.length = n := hlen first (by simp)
    cases w with
    | zero =>
      obtain rfl : first = word := by simpa using hw
      rw [List.flatten_cons, Nat.mul_zero, Nat.zero_add, List.getElem?_append_left (by omega)]
    | succ w =>
      rw [List.flatten_cons, List.getElem?_append_right (by rw [hfirst, Nat.mul_succ]; omega),
        ← ih (fun x hx => hlen x (by simp [hx])) (by simpa using hw), hfirst]
      congr 1
      rw [Nat.mul_succ]
      omega

/-- A sample in a debug record: `I`, then `Q` (rule R262). -/
def sampleBytes (x : Sample) : List (BitVec 8) := bytesLE 2 x.i.toNat ++ bytesLE 2 x.q.toNat

/-- The 4-byte words of a debug record: its five header words, then the samples (rule R262). -/
def debugWords (f : Frame) (s : State) : List (List (BitVec 8)) :=
  [bytesLE 4 s.rdr.roundNo.toNat, bytesLE 4 (slotIndex s).toNat, [if s.rdr.rstate = .ackSequence then 1 else 0, 0, 0, 0],
    bytesLE 4 f.start.toNat, bytesLE 4 f.len.toNat] ++ (frameSamples s.mem f).map sampleBytes

theorem debugRecord_eq_flatten (f : Frame) (s : State) : debugRecord f s = (debugWords f s).flatten := by
  simp only [debugRecord, debugWords, List.flatten_append, List.flatten_cons, List.flatten_nil, List.flatMap_def,
    List.append_assoc, List.append_nil]
  rfl

theorem length_of_mem_debugWords {f : Frame} {s : State} {word : List (BitVec 8)} (h : word ∈ debugWords f s) :
    word.length = 4 := by
  simp only [debugWords, List.mem_append, List.mem_cons, List.not_mem_nil, or_false, List.mem_map] at h
  rcases h with (rfl | rfl | rfl | rfl | rfl) | ⟨x, -, rfl⟩
  case inr => rw [sampleBytes, List.length_append, bytesLE_length, bytesLE_length]
  all_goals rfl

theorem debugWords_length (f : Frame) (s : State) : (debugWords f s).length = 5 + f.len.toNat := by
  simp [debugWords, frameSamples]
  omega

theorem debugRecord_length (f : Frame) (s : State) : (debugRecord f s).length = 20 + 4 * f.len.toNat := by
  have hlens : (debugWords f s).map List.length = List.replicate (5 + f.len.toNat) 4 := by
    rw [← debugWords_length f s]
    exact List.map_eq_replicate_iff.2 fun _ => length_of_mem_debugWords
  rw [debugRecord_eq_flatten, List.length_flatten, hlens, List.sum_replicate_nat]
  omega

/-- The bytes of a debug record, word by word. -/
theorem getElem?_debugRecord {f : Frame} {s : State} {w j k : Nat} {word : List (BitVec 8)}
    (hw : (debugWords f s)[w]? = some word) (hj : j < 4) (hk : k = 4 * w + j) :
    (debugRecord f s)[k]? = word[j]? := by
  rw [debugRecord_eq_flatten, hk]
  exact getElem?_flatten_of_length (fun _ => length_of_mem_debugWords) hw hj

theorem getElem?_debugWords_sample {f : Frame} {k : Nat} (hk : k < f.len.toNat) (s : State) :
    (debugWords f s)[5 + k]? = some (sampleBytes (s.mem.readFb k)) := by
  rw [debugWords, List.getElem?_append_right (Nat.le_add_right 5 k)]
  simp [frameSamples, hk]

/-- The bytes of a sample (rule R262). -/
theorem sampleBytes_eq (x : Sample) :
    sampleBytes x = [x.i.extractLsb' 0 8, x.i.extractLsb' 8 8, x.q.extractLsb' 0 8, x.q.extractLsb' 8 8] := by
  simp [sampleBytes, bytesLE, BitVec.extractLsb', Nat.shiftRight_eq_div_pow]

/-- The slot number does not wrap while no more slots are left than the round has (rule R24). -/
theorem slotIndex_toNat (h : s.rdr.slotsRem.toNat ≤ 2 ^ s.cfg.rdrQ.toNat) :
    (slotIndex s).toNat = 2 ^ s.cfg.rdrQ.toNat - s.rdr.slotsRem.toNat := by
  have hslots : (1#32 <<< s.cfg.rdrQ.toNat).toNat = 2 ^ s.cfg.rdrQ.toNat := BitVec.toNat_twoPow_of_lt (by omega)
  have hwide : (s.rdr.slotsRem.setWidth 32).toNat = s.rdr.slotsRem.toNat := by
    rw [BitVec.toNat_setWidth, Nat.mod_eq_of_lt (by omega)]
  rw [slotIndex, BitVec.toNat_sub_of_le (by rwa [BitVec.le_def, hslots, hwide]), hslots, hwide]

/-- Settles O17: the cases of `ON_FRAME` (`onFrame_cases`); a debug record byte by byte from its 4-byte words
(`getElem?_debugRecord`). -/
theorem frameHandling : Obligations.FrameHandling := by
  intro f d s
  rcases onFrame_cases s f d with ⟨hk, he⟩ | ⟨hk, he⟩
  · exact ⟨fun _ => he, fun hk' => by simp [hk] at hk', fun hk' => by simp [hk] at hk'⟩
  · refine ⟨fun hk' => by simp [hk] at hk', fun _ hoff => ?_, fun _ hon hslots => ⟨debugRecord f s, ?_,
      debugRecord_length f s, fun k hk4 => ⟨?_, ?_, ?_, ?_⟩, ?_, fun k hk3 => ?_, fun k hlen => ?_⟩⟩
    · rw [he, recorded, if_neg (by simp [hoff])]
    · rw [he, recorded, if_pos hon]
      rfl
    · exact (getElem?_debugRecord (w := 0) rfl hk4 (by omega)).trans (getElem?_bytesLE hk4 _)
    · rw [← slotIndex_toNat hslots]
      exact (getElem?_debugRecord (w := 1) rfl hk4 rfl).trans (getElem?_bytesLE hk4 _)
    · exact (getElem?_debugRecord (w := 3) rfl hk4 rfl).trans (getElem?_bytesLE hk4 _)
    · exact (getElem?_debugRecord (w := 4) rfl hk4 rfl).trans (getElem?_bytesLE hk4 _)
    · exact getElem?_debugRecord (w := 2) (j := 0) rfl (by omega) rfl
    · rw [getElem?_debugRecord (w := 2) (j := 1 + k) rfl (by omega) (by omega)]
      interval_cases k <;> rfl
    · have hword := getElem?_debugWords_sample hlen s
      rw [sampleBytes_eq] at hword
      exact ⟨getElem?_debugRecord (j := 0) hword (by omega) (by omega),
        getElem?_debugRecord (j := 1) hword (by omega) (by omega),
        getElem?_debugRecord (j := 2) hword (by omega) (by omega),
        getElem?_debugRecord (j := 3) hword (by omega) (by omega)⟩

/-! ### Transmit completion -/

/-- Settles O18: the branches of `TX_DONE`, a stop after a Select by `ENTER_DONE`. -/
theorem txDoneEffect : Obligations.TxDoneEffect := by
  intro s
  refine ⟨fun hb => congrArg Host.Outcome.next ?_, fun hb hr hstop => congrArg Host.Outcome.next ?_,
    fun hb hr hgo => congrArg Host.Outcome.next ?_, fun hb hr => ⟨_, congrArg Host.Outcome.next ?_, rfl, ?_⟩⟩
  · simp only [txDone, hb]
    rfl
  · simp only [txDone, hb, hr, hstop]
    rfl
  · simp only [txDone, hb, hr, hgo]
    rfl
  · have hr' : s.rdr.rstate ≠ .roundStart := by rcases hr with hr | hr <;> simp [hr]
    simp only [txDone, hb, hr']
    rfl
  · exact (listening_iff _).2 ⟨hr, rfl⟩

/-! ### The slot counter -/

/-- The slot counter is left, goes down by one, or at 1 is loaded with a new round's slots (rule R263(a)). -/
def SlotsStep (s t : State) : Prop :=
  t.rdr.slotsRem = s.rdr.slotsRem ∨ t.rdr.slotsRem.toNat + 1 = s.rdr.slotsRem.toNat ∨
    (s.rdr.slotsRem = 1 ∧ t.rdr.slotsRem.toNat = 2 ^ s.cfg.rdrQ.toNat)

/-- The step of a state that differs from `s` neither in the slot counter nor in the configuration. -/
theorem SlotsStep.before (h : SlotsStep u t) (hslots : u.rdr.slotsRem = s.rdr.slotsRem) (hcfg : u.cfg = s.cfg) :
    SlotsStep s t := by
  rwa [SlotsStep, hslots, hcfg] at h

/-- `ROUND_BEGIN` leaves the counter where it stops, and loads it otherwise (rule R243). -/
theorem roundBegin_slotsRem (s : State) :
    (roundBegin s).rdr.slotsRem = s.rdr.slotsRem ∨ (roundBegin s).rdr.slotsRem.toNat = 2 ^ s.cfg.rdrQ.toNat := by
  rcases roundBegin_cases s with ⟨-, he⟩ | ⟨-, -, ⟨-, he⟩ | ⟨-, he⟩⟩ <;> rw [he]
  · exact .inl rfl
  · exact .inr (toNat_slotCount _)
  · exact .inr (toNat_slotCount _)

/-- `END_SLOT` with a slot left takes one off, and begins the next round at the last (rule R259). -/
theorem slotsStep_endSlot (hslots : 1 ≤ s.rdr.slotsRem.toNat) (o : SlotOutcome) : SlotsStep s (endSlot o s) := by
  have htaken : (slotCounted s o).rdr.slotsRem.toNat + 1 = s.rdr.slotsRem.toNat := by
    simp only [slotCounted]
    bv_omega
  rcases endSlot_cases s o with ⟨hlast, he⟩ | ⟨-, -, he⟩ | ⟨-, -, he⟩ <;> rw [he]
  · rcases roundBegin_slotsRem (roundEnd (slotCounted s o)) with hkept | hloaded
    · exact .inr (.inl (by rw [hkept]; exact htaken))
    · exact .inr (.inr ⟨by bv_omega, hloaded⟩)
  · exact .inr (.inl htaken)
  · exact .inr (.inl htaken)

/-- `CLASSIFY` ends at most the one slot (rules R251, R252, R254). -/
theorem slotsStep_classify (hslots : 1 ≤ s.rdr.slotsRem.toNat) (d : Decoded) : SlotsStep s (classify d s) := by
  rcases classify_cases s d with ⟨-, -, he⟩ | ⟨-, -, he⟩ | ⟨-, -, he⟩ | ⟨-, -, he⟩ | ⟨-, -, -, he⟩ | ⟨-, -, he⟩ |
    ⟨-, -, he⟩ <;> rw [he]
  · exact slotsStep_endSlot hslots _
  · exact slotsStep_endSlot hslots _
  · rcases ackOrRefuse_cases s d.rn with ⟨-, he⟩ | ⟨-, he⟩ <;> rw [he]
    · refine (slotsStep_endSlot ?_ _).before rfl rfl
      exact hslots
    · exact .inl rfl
  · exact .inl rfl
  · exact (slotsStep_endSlot (by simpa) _).before (by simp) (by simp)
  · exact slotsStep_endSlot hslots _
  · exact .inl rfl

/-- The Reader's part of a sample step (rules R170, R250, R255). -/
theorem slotsStep_afterGate {r : State × Option Frame} (hslots : 1 ≤ r.1.rdr.slotsRem.toNat) :
    SlotsStep r.1 (afterGate r) := by
  rcases afterGate_cases r with ⟨f, -, he⟩ | ⟨-, -, he⟩ | ⟨-, -, he⟩ <;> rw [he]
  · rcases onFrame_cases (latchLast _ r.1) f (decode r.1 f (expect r.1)) with ⟨-, he⟩ | ⟨-, he⟩ <;> rw [he]
    · exact .inl rfl
    · exact (slotsStep_classify (by simpa) _).before (by simp) (by simp)
  · rcases slotTick_cases r.1 with ⟨-, -, he⟩ | ⟨-, he⟩ <;> rw [he]
    · refine (slotsStep_classify ?_ _).before rfl rfl
      exact hslots
    · exact .inl rfl
  · exact .inl rfl

/-- Settles O56: a running block has a slot left (rule R33(f)), and a sample makes of the counter what the Reader's part
of its step makes of it (`slotsStep_afterGate`). -/
theorem slotCounterRule : Obligations.SlotCounterRule := by
  intro idx i q s t h hrun ht
  obtain ⟨hslots, -⟩ := h.slotsLeft hrun
  rcases sampleStep_next s idx i q t ht with ⟨hd, -⟩ | ⟨-, -, rfl⟩
  · exact absurd hd hrun
  · exact (slotsStep_afterGate (by simpa)).before (by simp) (by simp)

end Sys2Proof.Machine
end

section
/-! PROOFS. The host operations (rules R290, R293 to R297): which check validation names, what START and STOP do, and that the
host-write rows are bus writes. -/

namespace Sys2Proof.Machine

variable {s : State}

/-! ### Validation -/

/-- Of checks in rising order, the first failing one is found: it fails and none before it does. -/
theorem firstFailing_cases (l : List (Nat × Bool)) (hup : l.Pairwise fun a b => a.1 < b.1) :
    (firstFailing l = 0 ∧ ∀ n, (n, true) ∉ l) ∨
      ((firstFailing l, true) ∈ l ∧ ∀ n < firstFailing l, (n, true) ∉ l) := by
  induction l with
  | nil => exact .inl ⟨rfl, by simp⟩
  | cons check rest ih =>
    obtain ⟨k, fails⟩ := check
    obtain ⟨hlater, hrest⟩ := List.pairwise_cons.1 hup
    cases fails with
    | true =>
      refine .inr ⟨List.mem_cons_self, fun n (hn : n < k) hmem => ?_⟩
      rcases List.mem_cons.1 hmem with heq | hin
      · cases heq
        exact absurd hn (Nat.lt_irrefl _)
      · exact absurd (hlater _ hin) (Nat.lt_asymm hn)
    | false => simpa [firstFailing] using ih hrest

/-- The model's list of checks is the table of rule R294. -/
theorem mem_validationChecks_iff (p : Params) (c : Cfg) (n : Nat) :
    (n, true) ∈ validationChecks p c ↔ checkFails p c n := by
  have hone (x : BitVec 1) : x = 1 ↔ x.toNat = 1 := by rw [← BitVec.toNat_inj]; rfl
  have hzero {w : Nat} (x : BitVec w) : x = 0#w ↔ x.toNat = 0 := by rw [← BitVec.toNat_inj]; rfl
  unfold checkFails
  split <;> simp_all [validationChecks]

/-- The table of rule R294 has thirteen checks. -/
theorem checkFails_range {p : Params} {c : Cfg} {n : Nat} (h : checkFails p c n) : 1 ≤ n ∧ n ≤ 13 := by
  have hmem := (mem_validationChecks_iff p c n).2 h
  simp only [validationChecks, List.mem_cons, Prod.mk.injEq, List.not_mem_nil, or_false] at hmem
  omega

/-- Settles O20: the checks are the table's (`mem_validationChecks_iff`), in rising order, so the first failing one is found
(`firstFailing_cases`). -/
theorem validateFirstFailing : Obligations.ValidateFirstFailing := by
  intro p c
  have hfirst := firstFailing_cases (validationChecks p c) (by simp [validationChecks])
  simp only [mem_validationChecks_iff] at hfirst
  exact hfirst.imp_right fun ⟨hfails, hpass⟩ => ⟨(checkFails_range hfails).1, (checkFails_range hfails).2, hfails, hpass⟩

/-! ### START and STOP -/

/-- Settles O19: the cases of START (`start_cases`). -/
theorem startOutcomes : Obligations.StartOutcomes := by
  intro rsv s
  rcases start_cases s with ⟨hrun, he⟩ | ⟨hd, hv, he⟩ | ⟨hd, hv, he⟩
  · exact ⟨fun _ => congrArg Host.Outcome.next he, fun hd => absurd hd hrun, fun hd => absurd hd hrun⟩
  · exact ⟨fun hrun => absurd hd hrun, fun _ _ => congrArg Host.Outcome.next he, fun _ hv' => absurd hv' hv⟩
  · exact ⟨fun hrun => absurd hd hrun, fun _ hv' => absurd hv hv', fun _ _ => congrArg Host.Outcome.next he⟩

/-- Settles O22: the cases of STOP (`stop_cases`), which START with STOP runs too. -/
theorem stopRequest : Obligations.StopRequest := by
  intro rsv s
  have hstop : exec (.ctrlStop rsv) s = .next (stop s) := rfl
  have hboth : exec (.ctrlStartStop rsv) s = .next (stop s) := rfl
  rw [hstop, hboth]
  rcases stop_cases s with ⟨hd, he⟩ | ⟨hrun, he⟩ <;> rw [he]
  · exact ⟨fun _ => ⟨rfl, rfl⟩, fun hrun => absurd hd hrun⟩
  · exact ⟨fun hd => absurd hd hrun, fun _ => ⟨rfl, rfl⟩⟩

/-- The configured Query's word (rule R242). -/
theorem ofNat_configuredQueryBits (c : Cfg) :
    BitVec.ofNat 128 (msbFirst (queryBits c.dr c.qSel c.session c.target c.rdrQ c.queryCrc)) =
      configuredQueryWord c := by
  rw [ofNat_queryBits, Cfg.queryCrc, queryBits_take_eq_bitsOf]
  rfl

/-- The configured Select's word (rule R242). -/
theorem ofNat_configuredSelectBits (c : Cfg) :
    BitVec.ofNat 128 (msbFirst (selectBits c.sTarget c.action c.memBank c.pointer c.length c.selMask c.trunc
      c.selectCrc)) = configuredSelectWord c := by
  rw [ofNat_selectBits, Cfg.selectCrc, selectBody_eq_bitsOf]
  rfl

/-- The configured Query on the command port (rules R131, R134, R242). -/
def configuredQuery (c : Cfg) : Command :=
  { kind := 1, word := configuredQueryWord c, len := 22, pre := 1, timing := c.txTiming }

/-- The configured Select on the command port (rules R131, R138, R242). -/
def configuredSelect (c : Cfg) : Command :=
  { kind := 5, word := configuredSelectWord c, len := BitVec.ofNat 8 (45 + c.length.toNat), pre := 0,
    timing := c.txTiming }

/-- The Command that begins a round (rule R243). -/
def firstCommand (c : Cfg) : Command := if c.selEn = 1 then configuredSelect c else configuredQuery c

/-- An accepted START clears the last run, opens a round and emits its first Command: after the Select the Query and its
round number are still to come (rules R243 to R246, R295). -/
theorem startInit_eq (hv : validate s.par s.cfg = 0) :
    startInit s = { newRound (startClear s) with
      rdr := { (newRound (startClear s)).rdr with
        txBusy := true, lastCmd := (firstCommand s.cfg).kind
        rstate := if s.cfg.selEn = 1 then .roundStart else .awaitSlotReply
        roundNo := if s.cfg.selEn = 1 then 0 else 1 }
      outs := s.outs ++ [.cmd (firstCommand s.cfg)] } := by
  obtain ⟨-, -, -, -, -, -, -, -, -, -, hrounds, -⟩ := validate_bounds _ _ hv
  rcases roundBegin_cases (startClear s) with ⟨hstop | hmax, -⟩ | ⟨-, -, ⟨hsel, he⟩ | ⟨hsel, he⟩⟩
  · simp at hstop
  · simp at hmax
    omega
  · rw [startClear_cfg] at hsel
    simp only [startInit, he, firstCommand, hsel, if_true, configuredSelect, ← ofNat_configuredSelectBits]
    rw [← selectBits_length s.cfg.sTarget s.cfg.action s.cfg.memBank s.cfg.pointer s.cfg.length s.cfg.selMask s.cfg.trunc
      s.cfg.selectCrc]
    rfl
  · rw [startClear_cfg] at hsel
    simp only [startInit, he, firstCommand, hsel, if_false, configuredQuery, ← ofNat_configuredQueryBits]
    rfl

/-- Settles O21: START is accepted (`startOutcomes`), and its next state is written out by `startInit_eq`. -/
theorem startBeginsRun : Obligations.StartBeginsRun := by
  intro rsv s hd hv
  obtain ⟨-, -, haccepted⟩ := startOutcomes rsv s
  rw [haccepted hd hv, startInit_eq hv]
  refine ⟨_, rfl, rfl, rfl, rfl, rfl, rfl, rfl, rfl, rfl, rfl, rfl, rfl, rfl, rfl, toNat_slotCount _, rfl, rfl, rfl, rfl,
    fun _ => rfl, fun _ => rfl, fun h0 => ?_, fun h1 => ?_⟩
  · have hsel : s.cfg.selEn ≠ 1 := by simp [Cfg.selEn, h0]
    have hcmd : firstCommand s.cfg = configuredQuery s.cfg := if_neg hsel
    exact ⟨if_neg hsel, if_neg hsel, congrArg Command.kind hcmd, congrArg (fun c => s.outs ++ [.cmd c]) hcmd⟩
  · have hcmd : firstCommand s.cfg = configuredSelect s.cfg := if_pos h1
    exact ⟨if_pos h1, if_pos h1, congrArg Command.kind hcmd, congrArg (fun c => s.outs ++ [.cmd c]) hcmd⟩

/-! ### Host writes -/

/-- Settles O27: both are the bus write of the address and the datum (`exec_decodeHostWrite`). -/
theorem hostWriteRowsAgreeWithBusWrite : Obligations.HostWriteRowsAgreeWithBusWrite :=
  fun addr data s => ⟨busWrite addr data s, exec_decodeHostWrite addr data s, rfl⟩

end Sys2Proof.Machine
end

section
/-! PROOFS. The acknowledgement of causes (rules R292, R320). No part of a sample step reads `IRQ_PEND`, so that a sample after
a clearing write raises what it raises from an empty `IRQ_PEND`, beside the bits that the write keeps. -/

namespace Sys2Proof.Machine

/-! ### A sample step under pending causes -/

/-- The state with the bits `p` pending beside its own. -/
def withPending (p : BitVec 9) (s : State) : State := { s with irqPend := s.irqPend ||| p }

/-- The state in which a gap in the sample indices has been counted and raised (rule R179). -/
def discontinued (s : State) : State :=
  raise .discont { s with diag := { s.diag with discontCnt := s.diag.discontCnt + 1 } }

theorem discontCheck_eq (idx : BitVec 32) (s : State) : discontCheck idx s =
    if s.haveLast ∧ idx ≠ s.lastIdx + 1 then
      (if s.gate.gstate = .inFrame then gateReset (discontinued s) else discontinued s)
    else s := rfl

theorem endSlot_eq (o : SlotOutcome) (s : State) : endSlot o s =
    if (slotCounted s o).rdr.slotsRem = 0 then roundBegin (roundEnd (slotCounted s o))
    else if s.rdr.stopReq then enterDone (slotCounted s o) else emitQueryRep s.cfg.session (slotCounted s o) := rfl

theorem afterGate_noFrame (s : State) : afterGate (s, none) = if listening s then slotTick s else s := rfl

section
variable (p : BitVec 9) (s : State)
/-! Each procedure of a sample step leaves the bits `p` pending beside what it does without them. -/

@[simp] theorem withPending_cfg : (withPending p s).cfg = s.cfg := rfl
@[simp] theorem withPending_rdr : (withPending p s).rdr = s.rdr := rfl
@[simp] theorem withPending_gate : (withPending p s).gate = s.gate := rfl
@[simp] theorem withPending_irqPend : (withPending p s).irqPend = s.irqPend ||| p := rfl
@[simp] theorem withPending_lastIdx : (withPending p s).lastIdx = s.lastIdx := rfl
@[simp] theorem withPending_haveLast : (withPending p s).haveLast = s.haveLast := rfl

/-- A raise sets its bit beside the others, in either order (rule R320). -/
theorem raise_withPending (c : Cause) : raise c (withPending p s) = withPending p (raise c s) :=
  congrArg (fun b => { s with irqPend := b }) (by simp only [withPending, raise]; ac_rfl)

theorem enterDone_withPending : enterDone (withPending p s) = withPending p (enterDone s) :=
  raise_withPending p (gateReset { s with rdr := { s.rdr with rstate := .done, stopReq := false } }) .done

theorem roundEnd_withPending : roundEnd (withPending p s) = withPending p (roundEnd s) := by
  unfold roundEnd
  exact raise_withPending p { s with tally := { s.tally with
    lSuccess := s.tally.rSuccess, lCollision := s.tally.rCollision, lEmpty := s.tally.rEmpty,
    tRounds := s.tally.tRounds + 1 } } .roundEnd

theorem roundBegin_withPending : roundBegin (withPending p s) = withPending p (roundBegin s) := by
  simp only [roundBegin, apply_ite (withPending p), enterDone_withPending]
  rfl

theorem endSlot_withPending (o : SlotOutcome) : endSlot o (withPending p s) = withPending p (endSlot o s) := by
  have hcounted : slotCounted (withPending p s) o = withPending p (slotCounted s o) := rfl
  simp only [endSlot_eq, hcounted, roundEnd_withPending, roundBegin_withPending, enterDone_withPending,
    apply_ite (withPending p)]
  rfl

theorem recordId_withPending (pc : BitVec 16) (epc : BitVec 96) :
    recordId pc epc (withPending p s) = withPending p (recordId pc epc s) := by
  simp only [recordId, apply_ite (withPending p), ← raise_withPending]
  rfl

theorem ackOrRefuse_withPending (rn : BitVec 16) :
    ackOrRefuse rn (withPending p s) = withPending p (ackOrRefuse rn s) := by
  simp only [ackOrRefuse, apply_ite (withPending p), ← endSlot_withPending]
  rfl

theorem classify_withPending (d : Decoded) : classify d (withPending p s) = withPending p (classify d s) := by
  unfold classify
  rw [withPending_rdr]
  cases s.rdr.rstate with
  | awaitSlotReply =>
    cases d.kind with
    | noReply | collisionOrNoise => exact endSlot_withPending p s _
    | randomNumber => exact ackOrRefuse_withPending p s d.rn
    | identifierReply => rfl
  | ackSequence =>
    simp only [recordId_withPending, endSlot_withPending, apply_ite (withPending p)]
  | _ => rfl

theorem slotTick_withPending : slotTick (withPending p s) = withPending p (slotTick s) := by
  simp only [slotTick, apply_ite (withPending p), ← classify_withPending]
  rfl

theorem onFrame_withPending (f : Frame) (d : Decoded) :
    onFrame f d (withPending p s) = withPending p (onFrame f d s) := by
  unfold onFrame
  cases f.kind with
  | r2tGap => rfl
  | tagReply =>
    simp only [← classify_withPending, apply_ite (withPending p)]
    rfl

theorem discontinued_withPending : discontinued (withPending p s) = withPending p (discontinued s) :=
  raise_withPending p { s with diag := { s.diag with discontCnt := s.diag.discontCnt + 1 } } .discont

theorem discontCheck_withPending (idx : BitVec 32) :
    discontCheck idx (withPending p s) = withPending p (discontCheck idx s) := by
  simp only [discontCheck_eq, discontinued_withPending, apply_ite (withPending p)]
  rfl

theorem noteIndex_withPending (idx : BitVec 32) :
    noteIndex idx (withPending p s) = withPending p (noteIndex idx s) := by
  unfold noteIndex
  rw [discontCheck_withPending]
  rfl

theorem closeFrame_withPending (len : BitVec 16) (forced : Bool) :
    closeFrame len forced (withPending p s) = (closeFrame len forced s).map (withPending p) id := by
  simp only [closeFrame, apply_ite (Prod.map (withPending p) id)]
  cases forced <;> rfl

theorem gateStep_withPending (idx : BitVec 32) (x : Sample) :
    gateStep idx x (withPending p s) = (gateStep idx x s).map (withPending p) id := by
  cases hg : s.gate.gstate with
  | idle =>
    by_cases hrise : thrOn s < energy x.i x.q
    · rw [gateStep_rise s idx x hg hrise, gateStep_rise (withPending p s) idx x hg hrise,
        apply_ite (Prod.map (withPending p) id), ← closeFrame_withPending]
      rfl
    · rw [gateStep_quiet s idx x hg hrise, gateStep_quiet (withPending p s) idx x hg hrise]
      rfl
  | inFrame =>
    rw [gateStep_inFrame s idx x hg, gateStep_inFrame (withPending p s) idx x hg]
    simp only [apply_ite (Prod.map (withPending p) id), ← closeFrame_withPending]
    rfl
  | done => simp [gateStep, hg]

theorem afterGate_withPending (r : State × Option Frame) :
    afterGate (r.map (withPending p) id) = withPending p (afterGate r) := by
  obtain ⟨s, closed⟩ := r
  cases closed with
  | some f => exact onFrame_withPending p (latchLast (decode s f (expect s)) s) f (decode s f (expect s))
  | none =>
    simp only [Prod.map_apply, id, afterGate_noFrame, slotTick_withPending, apply_ite (withPending p)]
    rfl

/-- A sample step does the same whatever is pending. -/
theorem sampleStep_withPending {idx : BitVec 32} {i q : BitVec 16} {v : State} (h : sampleStep idx i q s = .next v) :
    sampleStep idx i q (withPending p s) = .next (withPending p v) := by
  rcases sampleStep_next s idx i q v h with ⟨hd, rfl⟩ | ⟨hrun, hfb, rfl⟩
  · rw [sampleStep, if_pos (by simpa)]
  · rw [sampleStep, if_neg (by simpa)]
    dsimp only
    rw [noteIndex_withPending, if_pos (by exact hfb), gateStep_withPending, afterGate_withPending]
end

/-- A sample keeps the port activity still to come. -/
theorem sampleStep_inputs {idx : BitVec 32} {i q : BitVec 16} {s v : State} (h : sampleStep idx i q s = .next v) :
    v.inputs = s.inputs := by
  rcases sampleStep_next s idx i q v h with ⟨-, rfl⟩ | ⟨-, -, rfl⟩
  · rfl
  · simp

/-! ### Two events in one cycle -/

/-- A cycle of two events is two steps: the first leaves the cycle of the second, which leaves nothing (rule R115). -/
theorem step_twoEvents {c later : Cycle} {first second : Instr} {rest : List Item} {s : State}
    (hin : s.inputs = .cycle c :: rest) (hfirst : decodeCycle c = .ok (first, some (.cycle later)))
    (hsecond : decodeCycle later = .ok (second, none)) :
    step s = exec first { s with inputs := .cycle later :: rest } ∧
      ∀ t : State, t.inputs = .cycle later :: rest → step t = exec second { t with inputs := rest } :=
  ⟨stepRunsDecodedInstruction s _ rest first _ hin hfirst,
    fun t ht => stepRunsDecodedInstruction t _ rest second none ht hsecond⟩

/-! ### IRQ_PEND -/

/-- A raise sets the bit of its cause (rule R320). -/
theorem getLsbD_raise (c : Cause) (s : State) : (raise c s).irqPend.getLsbD c.code = true := by
  cases c <;> simp [Cause.mask, Cause.code]

/-- An acknowledged bit is cleared, every other stays (rule R292). -/
theorem getLsbD_clearPending (data : BitVec 32) (s : State) {k : Nat} (hk : k < 9) :
    (clearPending data s).irqPend.getLsbD k = (s.irqPend.getLsbD k && !data.getLsbD k) := by
  simp [hk]

/-- Settles O23: in one cycle the write is the first of two steps (`step_twoEvents`), and the second raises its cause in
whatever state the write leaves: `TX_DONE` by its spurious case, a `SAMPLE` by `sampleStep_withPending`. -/
theorem irqPendWriteOneToClear : Obligations.IrqPendWriteOneToClear := by
  refine ⟨fun data s => ⟨_, rfl, fun k hk => getLsbD_clearPending data s hk⟩, getLsbD_raise, ?_, ?_⟩
  · intro data idx i q s rest hfree hin
    obtain ⟨hwrite, hdone⟩ := step_twoEvents (first := .irqPendW1C data) (second := .txDone)
      (later := { ctl := 0b00010, addr := 0x010, wdata := data, sIdx := idx, sI := i, sQ := q }) hin
      (by simp [decodeCycle, Cycle.without, decodeHostWrite]) (by simp [decodeCycle, Cycle.without])
    have hspurious : txDone { clearPending data s with inputs := rest } =
        raise .spurTxd { clearPending data s with inputs := rest } := by
      rw [txDone, if_pos (by simpa using hfree)]
    exact ⟨_, _, hwrite, (hdone _ rfl).trans (congrArg Host.Outcome.next hspurious), rfl, getLsbD_raise .spurTxd _⟩
  · intro data idx i q s v rest k hin hsample hk
    obtain ⟨hwrite, hnext⟩ := step_twoEvents (first := .irqPendW1C data) (second := .sample idx i q)
      (later := { ctl := 0b00001, addr := 0x010, wdata := data, sIdx := idx, sI := i, sQ := q }) hin
      (by simp [decodeCycle, Cycle.without, decodeHostWrite]) (by simp [decodeCycle, Cycle.without])
    have hafter : { clearPending data s with inputs := rest } =
        withPending (clearPending data s).irqPend { s with irqPend := 0, inputs := rest } :=
      congrArg (fun b => { s with irqPend := b, inputs := rest }) BitVec.zero_or.symm
    refine ⟨_, withPending (clearPending data s).irqPend v, hwrite, (hnext _ rfl).trans ?_, sampleStep_inputs hsample, ?_⟩
    · exact (congrArg (sampleStep idx i q) hafter).trans (sampleStep_withPending _ _ hsample)
    · rw [withPending_irqPend, BitVec.getLsbD_or, hk, Bool.true_or]

end Sys2Proof.Machine
end
